-- ==== Sys2Proof/Word.lean ====
section
/-! DEFINITION. The two sizes of data the hardware moves (00_scope.md rule R9: byte size 8 bits, general register
width 16 bits). -/

namespace Sys2Proof

/-- A byte, bits 7..0 (rule R10). -/
abbrev Byte := BitVec 8

/-- A word, bits 15..0 (rule R10): a register, an offset, a segment value, a port number. -/
abbrev Word := BitVec 16

end Sys2Proof
end

