-- ==== Sys2Proof/Config.lean ====
section
/-! DEFINITION. What is fixed for a machine (00_scope.md rule R9, 92_eei_decisions.md section 2), and the free values:
the values the spec leaves undefined or gives to the host, as constants without a body, so that no proof can see them.
A free value that may differ each time is applied to the counter `draws` of the state. -/

namespace Sys2Proof.Config

/-- A status flag that an instruction leaves undefined (93_implementation_defined.md U1; rule R197): the n-th value drawn. -/
opaque freeFlag : Nat → Bool

/-- What the byte at an address holds after power-up, until something writes it (60_exceptions.md rule R370;
93_implementation_defined.md U16). -/
opaque powerUp : Nat → Byte

/-- The byte a read of an address gives where no memory answers, or a device with no scripted answer
(93_implementation_defined.md U16; 20_memory.md rule R61): address, then the n-th draw. -/
opaque freeBus : Nat → Nat → Byte

/-- The byte a port with no scripted answer gives (93_implementation_defined.md U16; rule R63): port, then the n-th draw. -/
opaque freePort : Word → Nat → Byte

/-- The type byte an interrupt acknowledge with no scripted answer gives (93_implementation_defined.md U21; rule R362). -/
opaque freeAck : Nat → Byte

/-- Which copy of an instruction byte a fetch sees when the byte was stored into while it could already be in the
prefetch queue (93_implementation_defined.md U7; rules R76 and R404): the n-th choice. -/
opaque freeFetch : Nat → Nat

/-- RESERVED_FLAG_BITS (92_eei_decisions.md D6; rule R32): what bits 1, 3, 5 and 12 to 15 of a FLAGS image read as. -/
opaque reservedFlagBits : Word

/-- IDIV_ACCEPTS_MIN (92_eei_decisions.md D10; rule R192): whether IDIV stores a quotient of -128 or -32,768. -/
opaque idivAcceptsMin : Bool

/-- QUEUE_BYTES (rule R9): the length of the instruction queue of the 8088 and 80C88. -/
def queueBytes : Nat := 4

/-- BUS_WIDTH (rule R9): the external data bus of the 8088 and 80C88. It changes timing only: no rule reads it. -/
def busWidth : Nat := 8

end Sys2Proof.Config
end

