-- ==== Sys2Proof/Syntax.lean ====
section
/-! DEFINITION. The instructions as data: one constructor for each row of spec/opcode_table.json, in the table's order
(30_encoding.md rule R113). A prefix byte is an instruction of its own here (rules R94 to R96): it only sets the
per-instruction prefix state of 10_state.md rule R42. -/

namespace Sys2Proof

/-- The w bit (30_encoding.md rule R83). -/
inductive Width where
  | byte
  | word
  deriving DecidableEq, Repr

/-- N of the rules: 8 when w = 0 and 16 when w = 1. -/
abbrev Width.bits : Width → Nat
  | .byte => 8
  | .word => 16

/-- The d bit (30_encoding.md rule R83): `fromReg` is d = 0 (r/m is the destination), `toReg` is d = 1. -/
inductive Dir where
  | fromReg
  | toReg
  deriving DecidableEq, Repr

/-- A 3-bit register number, 000 to 111; the width chooses the column (10_state.md rules R21 and R22). -/
inductive Reg where
  | axAl
  | cxCl
  | dxDl
  | bxBl
  | spAh
  | bpCh
  | siDh
  | diBh
  deriving DecidableEq, Repr

/-- A segment register, 00 to 11 (10_state.md rule R25). -/
inductive SReg where
  | es
  | cs
  | ss
  | ds
  deriving DecidableEq, Repr

/-- The register part of an effective address, r/m = 000 to 111 (30_encoding.md rule R88). -/
inductive Base where
  | bxSi
  | bxDi
  | bpSi
  | bpDi
  | si
  | di
  | bp
  | bx
  deriving DecidableEq, Repr

/-- The displacement of an effective address by the mod field (30_encoding.md rule R85): mod = 00, 01, 10. -/
inductive Disp where
  | none
  | d8 (v : Byte)
  | d16 (v : Word)
  deriving DecidableEq, Repr

/-- A memory operand (30_encoding.md rule R88). `direct` is mod = 00 with r/m = 110. -/
inductive MemRef where
  | direct (addr : Word)
  | based (b : Base) (d : Disp)
  deriving DecidableEq, Repr

/-- The r/m operand: a register when mod = 11, else memory (30_encoding.md rules R87 and R88). -/
inductive Rm where
  | reg (r : Reg)
  | mem (m : MemRef)
  deriving DecidableEq, Repr

/-- Immediate data of the w forms (30_encoding.md rule R91). -/
inductive Imm where
  | byte (v : Byte)
  | word (v : Word)
  deriving DecidableEq, Repr

/-- Immediate data of the s:w forms 80h to 83h (30_encoding.md rule R92). -/
inductive ArithImm where
  | op80 (v : Byte)
  | op81 (v : Word)
  | op82 (v : Byte)
  | op83 (v : Byte)
  deriving DecidableEq, Repr

/-- The v bit of the shifts and rotates: the count is 1 or is in CL (42_logic_shift_rotate.md rule R213). -/
inductive Count where
  | one
  | cl
  deriving DecidableEq, Repr

/-- The instruction set. -/
inductive Instr where
  -- the eight two-operand operations, three forms each
  | addRmReg (w : Width) (d : Dir) (rm : Rm) (reg : Reg)
  | addRmImm (imm : ArithImm) (rm : Rm)
  | addAccImm (imm : Imm)
  | orRmReg (w : Width) (d : Dir) (rm : Rm) (reg : Reg)
  | orRmImm (imm : Imm) (rm : Rm)
  | orAccImm (imm : Imm)
  | adcRmReg (w : Width) (d : Dir) (rm : Rm) (reg : Reg)
  | adcRmImm (imm : ArithImm) (rm : Rm)
  | adcAccImm (imm : Imm)
  | sbbRmReg (w : Width) (d : Dir) (rm : Rm) (reg : Reg)
  | sbbRmImm (imm : ArithImm) (rm : Rm)
  | sbbAccImm (imm : Imm)
  | andRmReg (w : Width) (d : Dir) (rm : Rm) (reg : Reg)
  | andRmImm (imm : Imm) (rm : Rm)
  | andAccImm (imm : Imm)
  | subRmReg (w : Width) (d : Dir) (rm : Rm) (reg : Reg)
  | subRmImm (imm : ArithImm) (rm : Rm)
  | subAccImm (imm : Imm)
  | xorRmReg (w : Width) (d : Dir) (rm : Rm) (reg : Reg)
  | xorRmImm (imm : Imm) (rm : Rm)
  | xorAccImm (imm : Imm)
  | cmpRmReg (w : Width) (d : Dir) (rm : Rm) (reg : Reg)
  | cmpRmImm (imm : ArithImm) (rm : Rm)
  | cmpAccImm (imm : Imm)
  -- one-byte forms of the lower half of the map
  | pushSreg (sr : SReg)
  | popEs
  | popSs
  | popDs
  | seg (sr : SReg)
  | daa
  | das
  | aaa
  | aas
  | incR16 (reg : Reg)
  | decR16 (reg : Reg)
  | pushR16 (reg : Reg)
  | popR16 (reg : Reg)
  -- conditional jumps
  | jo (disp : Byte)
  | jno (disp : Byte)
  | jb (disp : Byte)
  | jnb (disp : Byte)
  | je (disp : Byte)
  | jne (disp : Byte)
  | jbe (disp : Byte)
  | jnbe (disp : Byte)
  | js (disp : Byte)
  | jns (disp : Byte)
  | jp (disp : Byte)
  | jnp (disp : Byte)
  | jl (disp : Byte)
  | jnl (disp : Byte)
  | jle (disp : Byte)
  | jnle (disp : Byte)
  -- data movement
  | testRmReg (w : Width) (rm : Rm) (reg : Reg)
  | xchgRmReg (w : Width) (rm : Rm) (reg : Reg)
  | movRmReg (w : Width) (d : Dir) (rm : Rm) (reg : Reg)
  | movRmSreg (rm : Rm) (sr : SReg)
  | lea (reg : Reg) (m : MemRef)
  | movEsRm (rm : Rm)
  | movSsRm (rm : Rm)
  | movDsRm (rm : Rm)
  | popRm (rm : Rm)
  | nop
  | xchgAxCx
  | xchgAxDxBx (reg : Reg)
  | xchgAxIndex (reg : Reg)
  | cbw
  | cwd
  | callFar (off sgm : Word)
  | wait
  | pushf
  | popf
  | sahf
  | lahf
  | movAccMem (w : Width) (addr : Word)
  | movMemAcc (w : Width) (addr : Word)
  -- strings
  | movs (w : Width)
  | cmps (w : Width)
  | stos (w : Width)
  | lods (w : Width)
  | scas (w : Width)
  | testAccImm (imm : Imm)
  | movRegImm (imm : Imm) (reg : Reg)
  -- returns, pointer loads, interrupts
  | retNearImm (n : Word)
  | retNear
  | les (reg : Reg) (m : MemRef)
  | lds (reg : Reg) (m : MemRef)
  | movRmImm (imm : Imm) (rm : Rm)
  | retFarImm (n : Word)
  | retFar
  | int3
  | int (type : Byte)
  | into
  | iret
  -- shifts and rotates
  | rol (w : Width) (v : Count) (rm : Rm)
  | ror (w : Width) (v : Count) (rm : Rm)
  | rcl (w : Width) (v : Count) (rm : Rm)
  | rcr (w : Width) (v : Count) (rm : Rm)
  | shl (w : Width) (v : Count) (rm : Rm)
  | shr (w : Width) (v : Count) (rm : Rm)
  | sar (w : Width) (v : Count) (rm : Rm)
  | aam
  | aad
  | xlat
  | esc (op : BitVec 6) (rm : Rm)
  -- loops, ports, transfers
  | loopnz (disp : Byte)
  | loopz (disp : Byte)
  | loop (disp : Byte)
  | jcxz (disp : Byte)
  | inImm (w : Width) (port : Byte)
  | outImm (w : Width) (port : Byte)
  | callNear (disp : Word)
  | jmpNear (disp : Word)
  | jmpFar (off sgm : Word)
  | jmpShort (disp : Byte)
  | inDx (w : Width)
  | outDx (w : Width)
  -- prefixes and processor control
  | lock
  | repne
  | rep
  | hlt
  | cmc
  | testRmImm (imm : Imm) (rm : Rm)
  | not (w : Width) (rm : Rm)
  | neg (w : Width) (rm : Rm)
  | mul (w : Width) (rm : Rm)
  | imul (w : Width) (rm : Rm)
  | div (w : Width) (rm : Rm)
  | idiv (w : Width) (rm : Rm)
  | clc
  | stc
  | cli
  | sti
  | cld
  | std
  | incRm (w : Width) (rm : Rm)
  | decRm (w : Width) (rm : Rm)
  | callRm (rm : Rm)
  | callFarMem (m : MemRef)
  | jmpRm (rm : Rm)
  | jmpFarMem (m : MemRef)
  | pushRm (rm : Rm)
  deriving DecidableEq, Repr

end Sys2Proof
end

