-- ==== Sys2Proof/WellFormed.lean ====
section
/-! DEFINITION. Which instruction terms have an encoding: three checks, one for each place where the types alone admit a
term that no byte sequence stands for. -/

namespace Sys2Proof

/-- `[BP]` has no mod = 00 encoding: that pattern is the direct address (30_encoding.md rule R85). -/
def MemRef.wf : MemRef → Bool
  | .based .bp .none => false
  | _ => true

def Rm.wf : Rm → Bool
  | .reg _ => true
  | .mem m => m.wf

/-- The registers of the row XCHG AX,DX or AX,BX: 92h, 93h (40_data_transfer.md rule R138). -/
def Reg.isDxBx : Reg → Bool
  | .dxDl => true
  | .bxBl => true
  | _ => false

/-- The registers of the row XCHG AX,SP or BP or SI or DI: 94h to 97h (40_data_transfer.md rule R138). -/
def Reg.isIndex : Reg → Bool
  | .spAh => true
  | .bpCh => true
  | .siDh => true
  | .diBh => true
  | _ => false

/-- Every operand of the instruction has an encoding. -/
def Instr.wf : Instr → Bool
  | .addRmReg _ _ rm _ => rm.wf
  | .addRmImm _ rm => rm.wf
  | .addAccImm _ => true
  | .orRmReg _ _ rm _ => rm.wf
  | .orRmImm _ rm => rm.wf
  | .orAccImm _ => true
  | .adcRmReg _ _ rm _ => rm.wf
  | .adcRmImm _ rm => rm.wf
  | .adcAccImm _ => true
  | .sbbRmReg _ _ rm _ => rm.wf
  | .sbbRmImm _ rm => rm.wf
  | .sbbAccImm _ => true
  | .andRmReg _ _ rm _ => rm.wf
  | .andRmImm _ rm => rm.wf
  | .andAccImm _ => true
  | .subRmReg _ _ rm _ => rm.wf
  | .subRmImm _ rm => rm.wf
  | .subAccImm _ => true
  | .xorRmReg _ _ rm _ => rm.wf
  | .xorRmImm _ rm => rm.wf
  | .xorAccImm _ => true
  | .cmpRmReg _ _ rm _ => rm.wf
  | .cmpRmImm _ rm => rm.wf
  | .cmpAccImm _ => true
  | .pushSreg _ => true
  | .popEs => true
  | .popSs => true
  | .popDs => true
  | .seg _ => true
  | .daa => true
  | .das => true
  | .aaa => true
  | .aas => true
  | .incR16 _ => true
  | .decR16 _ => true
  | .pushR16 _ => true
  | .popR16 _ => true
  | .jo _ => true
  | .jno _ => true
  | .jb _ => true
  | .jnb _ => true
  | .je _ => true
  | .jne _ => true
  | .jbe _ => true
  | .jnbe _ => true
  | .js _ => true
  | .jns _ => true
  | .jp _ => true
  | .jnp _ => true
  | .jl _ => true
  | .jnl _ => true
  | .jle _ => true
  | .jnle _ => true
  | .testRmReg _ rm _ => rm.wf
  | .xchgRmReg _ rm _ => rm.wf
  | .movRmReg _ _ rm _ => rm.wf
  | .movRmSreg rm _ => rm.wf
  | .lea _ m => m.wf
  | .movEsRm rm => rm.wf
  | .movSsRm rm => rm.wf
  | .movDsRm rm => rm.wf
  | .popRm rm => rm.wf
  | .nop => true
  | .xchgAxCx => true
  | .xchgAxDxBx r => r.isDxBx
  | .xchgAxIndex r => r.isIndex
  | .cbw => true
  | .cwd => true
  | .callFar _ _ => true
  | .wait => true
  | .pushf => true
  | .popf => true
  | .sahf => true
  | .lahf => true
  | .movAccMem _ _ => true
  | .movMemAcc _ _ => true
  | .movs _ => true
  | .cmps _ => true
  | .stos _ => true
  | .lods _ => true
  | .scas _ => true
  | .testAccImm _ => true
  | .movRegImm _ _ => true
  | .retNearImm _ => true
  | .retNear => true
  | .les _ m => m.wf
  | .lds _ m => m.wf
  | .movRmImm _ rm => rm.wf
  | .retFarImm _ => true
  | .retFar => true
  | .int3 => true
  | .int _ => true
  | .into => true
  | .iret => true
  | .rol _ _ rm => rm.wf
  | .ror _ _ rm => rm.wf
  | .rcl _ _ rm => rm.wf
  | .rcr _ _ rm => rm.wf
  | .shl _ _ rm => rm.wf
  | .shr _ _ rm => rm.wf
  | .sar _ _ rm => rm.wf
  | .aam => true
  | .aad => true
  | .xlat => true
  | .esc _ rm => rm.wf
  | .loopnz _ => true
  | .loopz _ => true
  | .loop _ => true
  | .jcxz _ => true
  | .inImm _ _ => true
  | .outImm _ _ => true
  | .callNear _ => true
  | .jmpNear _ => true
  | .jmpFar _ _ => true
  | .jmpShort _ => true
  | .inDx _ => true
  | .outDx _ => true
  | .lock => true
  | .repne => true
  | .rep => true
  | .hlt => true
  | .cmc => true
  | .testRmImm _ rm => rm.wf
  | .not _ rm => rm.wf
  | .neg _ rm => rm.wf
  | .mul _ rm => rm.wf
  | .imul _ rm => rm.wf
  | .div _ rm => rm.wf
  | .idiv _ rm => rm.wf
  | .clc => true
  | .stc => true
  | .cli => true
  | .sti => true
  | .cld => true
  | .std => true
  | .incRm _ rm => rm.wf
  | .decRm _ rm => rm.wf
  | .callRm rm => rm.wf
  | .callFarMem m => m.wf
  | .jmpRm rm => rm.wf
  | .jmpFarMem m => m.wf
  | .pushRm rm => rm.wf

end Sys2Proof
end

