-- ==== Sys2Proof/Decode.lean ====
section
/-! DEFINITION. The decoder (30_encoding.md), total on any bytes and rejecting by name, and after it the encoder, written
from the same tables. A decoder is a tree that asks for one byte after the other: its node `byte` is the `Fetch8()` of
rule R81. -/

namespace Sys2Proof

/-- The word whose low byte is `lo`: low byte first, in the instruction stream and in memory alike (20_memory.md rule
R55). -/
def joinBytes (hi lo : Byte) : Word := hi ++ lo

/-- Bits 7..0 of a word (10_state.md rule R22). -/
def loByte (x : Word) : Byte := x.extractLsb' 0 8

/-- Bits 15..8 of a word (10_state.md rule R22). -/
def hiByte (x : Word) : Byte := x.extractLsb' 8 8

/-- Why a byte sequence is not an instruction of this hardware (30_encoding.md rule R105 and the rules it names). -/
inductive DecodeError where
  /-- a first byte that the opcode map does not assign -/
  | unassigned (opcode : Byte)
  /-- a ModRM reg field that names no member of its group, MOV with segment field 1xx among them -/
  | extension (opcode : Byte) (reg : BitVec 3)
  /-- 0Fh, the POP CS pattern (rule R110) -/
  | popCs
  /-- 8Eh with reg = 01, MOV CS,r/m (rule R110) -/
  | movCs
  /-- a register form of an instruction that needs a memory operand (rule R106) -/
  | registerForm (opcode : Byte)
  /-- AAM or AAD with a second byte other than 0Ah (rule R111) -/
  | adjustBase (opcode second : Byte)
  /-- the bytes end inside the instruction (never at a step: a fetch offers six bytes) -/
  | truncated
  deriving DecidableEq, Repr

/-- A decoder: the instruction is known, or the bytes are no instruction, or one more byte is fetched. -/
inductive Decoder where
  | done (i : Instr)
  | fail (e : DecodeError)
  | byte (k : Byte → Decoder)

namespace Decoder

/-- Run a decoder on bytes, `n` of them fetched already: the instruction and its length. -/
def run : Decoder → List Byte → Nat → Except DecodeError (Instr × Nat)
  | .done i, _, n => .ok (i, n)
  | .fail e, _, _ => .error e
  | .byte _, [], _ => .error .truncated
  | .byte k, b :: bs, n => (k b).run bs (n + 1)

/-- `Fetch16()`: low byte, then high byte (rule R81). -/
def word (k : Word → Decoder) : Decoder :=
  .byte fun lo => .byte fun hi => k (joinBytes hi lo)

end Decoder

/-! ## Register numbers -/

/-- REG table (10_state.md rules R21 and R22). -/
def Reg.ofBits (b : BitVec 3) : Reg :=
  match b.toNat with
  | 0 => .axAl
  | 1 => .cxCl
  | 2 => .dxDl
  | 3 => .bxBl
  | 4 => .spAh
  | 5 => .bpCh
  | 6 => .siDh
  | _ => .diBh

def Reg.bits : Reg → BitVec 3
  | .axAl => 0
  | .cxCl => 1
  | .dxDl => 2
  | .bxBl => 3
  | .spAh => 4
  | .bpCh => 5
  | .siDh => 6
  | .diBh => 7

/-- Segment register numbers (10_state.md rule R25). -/
def SReg.ofBits (b : BitVec 2) : SReg :=
  match b.toNat with
  | 0 => .es
  | 1 => .cs
  | 2 => .ss
  | _ => .ds

def SReg.bits : SReg → BitVec 2
  | .es => 0
  | .cs => 1
  | .ss => 2
  | .ds => 3

/-- The r/m table (30_encoding.md rule R88). -/
def Base.ofBits (b : BitVec 3) : Base :=
  match b.toNat with
  | 0 => .bxSi
  | 1 => .bxDi
  | 2 => .bpSi
  | 3 => .bpDi
  | 4 => .si
  | 5 => .di
  | 6 => .bp
  | _ => .bx

def Base.bits : Base → BitVec 3
  | .bxSi => 0
  | .bxDi => 1
  | .bpSi => 2
  | .bpDi => 3
  | .si => 4
  | .di => 5
  | .bp => 6
  | .bx => 7

/-! ## The ModRM byte -/

namespace Decoder

/-- mod, bits 7..6 (rule R84). -/
def modField (m : Byte) : BitVec 2 := m.extractLsb' 6 2

/-- reg, bits 5..3 (rule R84). -/
def regField (m : Byte) : BitVec 3 := m.extractLsb' 3 3

/-- r/m, bits 2..0 (rule R84). -/
def rmField (m : Byte) : BitVec 3 := m.extractLsb' 0 3

/-- The r/m operand of a ModRM byte, its displacement fetched next (rules R85, R88 and R89). -/
def rmOf (m : Byte) (k : Rm → Decoder) : Decoder :=
  match (modField m).toNat with
  | 0 =>
    if rmField m = 6 then word fun a => k (.mem (.direct a))
    else k (.mem (.based (Base.ofBits (rmField m)) .none))
  | 1 => .byte fun d => k (.mem (.based (Base.ofBits (rmField m)) (.d8 d)))
  | 2 => word fun d => k (.mem (.based (Base.ofBits (rmField m)) (.d16 d)))
  | _ => k (.reg (Reg.ofBits (rmField m)))

/-- A ModRM form: the reg field and the r/m operand. -/
def modrm (k : BitVec 3 → Rm → Decoder) : Decoder :=
  .byte fun m => rmOf m (k (regField m))

/-- `mod reg r/m` with a register in the reg field. -/
def regRm (k : Reg → Rm → Instr) : Decoder :=
  modrm fun r rm => .done (k (Reg.ofBits r) rm)

/-- `mod reg r/m` where the r/m operand must be in memory (rule R106). -/
def regMem (op : Byte) (k : Reg → MemRef → Instr) : Decoder :=
  .byte fun m => rmOf m fun
    | .mem a => .done (k (Reg.ofBits (regField m)) a)
    | .reg _ => .fail (.registerForm op)

/-- A group: the reg field selects one of eight members (rule R101). -/
def group (members : List (Rm → Decoder)) (op : Byte) : Decoder :=
  modrm fun r rm => (members.getD r.toNat fun _ => .fail (.extension op r)) rm

/-! ## Formats of rule R82 -/

def imm8 (k : Byte → Instr) : Decoder := .byte fun b => .done (k b)

def imm16 (k : Word → Instr) : Decoder := word fun v => .done (k v)

/-- `data`, and `data if w = 1` (rule R91). -/
def imm (w : Width) (k : Imm → Instr) : Decoder :=
  match w with
  | .byte => imm8 fun v => k (.byte v)
  | .word => imm16 fun v => k (.word v)

/-- Offset word, then segment word (rule R93). -/
def farPtr (k : Word → Word → Instr) : Decoder :=
  word fun off => word fun sgm => .done (k off sgm)

/-- The two fixed bytes of AAM and AAD (rule R111). -/
def adjust (op : Byte) (i : Instr) : Decoder :=
  .byte fun b => if b = 0x0A then .done i else .fail (.adjustBase op b)

/-- The four opcodes `dw` of a two-operand row (rules R83 and R99). -/
def dwForms (k : Width → Dir → Rm → Reg → Instr) : List Decoder :=
  [regRm fun r rm => k .byte .fromReg rm r, regRm fun r rm => k .word .fromReg rm r,
   regRm fun r rm => k .byte .toReg rm r, regRm fun r rm => k .word .toReg rm r]

/-- The two opcodes `w` of a row with a register in the reg field. -/
def wForms (k : Width → Rm → Reg → Instr) : List Decoder :=
  [regRm fun r rm => k .byte rm r, regRm fun r rm => k .word rm r]

/-- The two opcodes `w` of an accumulator-immediate row. -/
def accForms (k : Imm → Instr) : List Decoder := [imm .byte k, imm .word k]

/-- The two opcodes `w` of a row without operand bytes. -/
def wOps (k : Width → Instr) : List Decoder := [.done (k .byte), .done (k .word)]

/-- The eight opcodes of a one-byte register row (`op_reg`). -/
def regOps (k : Reg → Instr) : List Decoder :=
  [.done (k .axAl), .done (k .cxCl), .done (k .dxDl), .done (k .bxBl),
   .done (k .spAh), .done (k .bpCh), .done (k .siDh), .done (k .diBh)]

/-- The eight opcodes `1011 w reg` of one width (40_data_transfer.md rule R132). -/
def regImms (w : Width) (k : Imm → Reg → Instr) : List Decoder :=
  [imm w fun v => k v .axAl, imm w fun v => k v .cxCl, imm w fun v => k v .dxDl, imm w fun v => k v .bxBl,
   imm w fun v => k v .spAh, imm w fun v => k v .bpCh, imm w fun v => k v .siDh, imm w fun v => k v .diBh]

/-! ## Groups (rule R101) -/

/-- 80h, 81h and, for the arithmetic members only, 82h, 83h (rules R92 and R108). -/
def immGroup (op : Byte) : Decoder :=
  match op.toNat with
  | 0x80 => group
      [fun rm => imm8 fun v => .addRmImm (.op80 v) rm, fun rm => imm8 fun v => .orRmImm (.byte v) rm,
       fun rm => imm8 fun v => .adcRmImm (.op80 v) rm, fun rm => imm8 fun v => .sbbRmImm (.op80 v) rm,
       fun rm => imm8 fun v => .andRmImm (.byte v) rm, fun rm => imm8 fun v => .subRmImm (.op80 v) rm,
       fun rm => imm8 fun v => .xorRmImm (.byte v) rm, fun rm => imm8 fun v => .cmpRmImm (.op80 v) rm] op
  | 0x81 => group
      [fun rm => imm16 fun v => .addRmImm (.op81 v) rm, fun rm => imm16 fun v => .orRmImm (.word v) rm,
       fun rm => imm16 fun v => .adcRmImm (.op81 v) rm, fun rm => imm16 fun v => .sbbRmImm (.op81 v) rm,
       fun rm => imm16 fun v => .andRmImm (.word v) rm, fun rm => imm16 fun v => .subRmImm (.op81 v) rm,
       fun rm => imm16 fun v => .xorRmImm (.word v) rm, fun rm => imm16 fun v => .cmpRmImm (.op81 v) rm] op
  | 0x82 => group
      [fun rm => imm8 fun v => .addRmImm (.op82 v) rm, fun _ => .fail (.extension op 1),
       fun rm => imm8 fun v => .adcRmImm (.op82 v) rm, fun rm => imm8 fun v => .sbbRmImm (.op82 v) rm,
       fun _ => .fail (.extension op 4), fun rm => imm8 fun v => .subRmImm (.op82 v) rm,
       fun _ => .fail (.extension op 6), fun rm => imm8 fun v => .cmpRmImm (.op82 v) rm] op
  | _ => group
      [fun rm => imm8 fun v => .addRmImm (.op83 v) rm, fun _ => .fail (.extension op 1),
       fun rm => imm8 fun v => .adcRmImm (.op83 v) rm, fun rm => imm8 fun v => .sbbRmImm (.op83 v) rm,
       fun _ => .fail (.extension op 4), fun rm => imm8 fun v => .subRmImm (.op83 v) rm,
       fun _ => .fail (.extension op 6), fun rm => imm8 fun v => .cmpRmImm (.op83 v) rm] op

/-- D0h to D3h (42_logic_shift_rotate.md rule R212). -/
def shiftGroup (op : Byte) (w : Width) (v : Count) : Decoder :=
  group
    [fun rm => .done (.rol w v rm), fun rm => .done (.ror w v rm), fun rm => .done (.rcl w v rm),
     fun rm => .done (.rcr w v rm), fun rm => .done (.shl w v rm), fun rm => .done (.shr w v rm),
     fun _ => .fail (.extension op 6), fun rm => .done (.sar w v rm)] op

/-- F6h and F7h: only /0, TEST, has immediate bytes (rule R98). -/
def unaryGroup (op : Byte) (w : Width) : Decoder :=
  group
    [fun rm => imm w fun v => .testRmImm v rm, fun _ => .fail (.extension op 1), fun rm => .done (.not w rm),
     fun rm => .done (.neg w rm), fun rm => .done (.mul w rm), fun rm => .done (.imul w rm),
     fun rm => .done (.div w rm), fun rm => .done (.idiv w rm)] op

/-- FFh. -/
def wordGroup (op : Byte) : Decoder :=
  group
    [fun rm => .done (.incRm .word rm), fun rm => .done (.decRm .word rm), fun rm => .done (.callRm rm),
     fun rm => match rm with
       | .mem m => .done (.callFarMem m)
       | .reg _ => .fail (.registerForm op),
     fun rm => .done (.jmpRm rm),
     fun rm => match rm with
       | .mem m => .done (.jmpFarMem m)
       | .reg _ => .fail (.registerForm op),
     fun rm => .done (.pushRm rm), fun _ => .fail (.extension op 7)] op

/-- 8Ch: `mod 0 reg r/m`, any segment register (40_data_transfer.md rule R125). -/
def storeSreg (op : Byte) : Decoder :=
  modrm fun r rm =>
    if r.getLsbD 2 then .fail (.extension op r) else .done (.movRmSreg rm (SReg.ofBits (r.extractLsb' 0 2)))

/-- 8Eh: `mod 0 reg r/m`, any segment register but CS (40_data_transfer.md rule R124, 30_encoding.md rule R110). -/
def loadSreg (op : Byte) : Decoder :=
  group
    [fun rm => .done (.movEsRm rm), fun _ => .fail .movCs, fun rm => .done (.movSsRm rm),
     fun rm => .done (.movDsRm rm)] op

/-- ESC: `11011 xxx, mod xxx r/m` (rule R107); the high x bits are the low bits of the first byte. -/
def escape (high : BitVec 3) : Decoder :=
  modrm fun low rm => .done (.esc (high ++ low) rm)

/-! ## The first-byte map (rule R100), sixteen rows of sixteen -/

def map0 : List Decoder :=
  dwForms .addRmReg ++ accForms .addAccImm ++ [.done (.pushSreg .es), .done .popEs] ++
  dwForms .orRmReg ++ accForms .orAccImm ++ [.done (.pushSreg .cs), .fail .popCs]

def map1 : List Decoder :=
  dwForms .adcRmReg ++ accForms .adcAccImm ++ [.done (.pushSreg .ss), .done .popSs] ++
  dwForms .sbbRmReg ++ accForms .sbbAccImm ++ [.done (.pushSreg .ds), .done .popDs]

def map2 : List Decoder :=
  dwForms .andRmReg ++ accForms .andAccImm ++ [.done (.seg .es), .done .daa] ++
  dwForms .subRmReg ++ accForms .subAccImm ++ [.done (.seg .cs), .done .das]

def map3 : List Decoder :=
  dwForms .xorRmReg ++ accForms .xorAccImm ++ [.done (.seg .ss), .done .aaa] ++
  dwForms .cmpRmReg ++ accForms .cmpAccImm ++ [.done (.seg .ds), .done .aas]

def map4 : List Decoder := regOps .incR16 ++ regOps .decR16

def map5 : List Decoder := regOps .pushR16 ++ regOps .popR16

def map7 : List Decoder :=
  [imm8 .jo, imm8 .jno, imm8 .jb, imm8 .jnb, imm8 .je, imm8 .jne, imm8 .jbe, imm8 .jnbe,
   imm8 .js, imm8 .jns, imm8 .jp, imm8 .jnp, imm8 .jl, imm8 .jnl, imm8 .jle, imm8 .jnle]

def map8 : List Decoder :=
  [immGroup 0x80, immGroup 0x81, immGroup 0x82, immGroup 0x83] ++ wForms .testRmReg ++ wForms .xchgRmReg ++
  dwForms .movRmReg ++
  [storeSreg 0x8C, regMem 0x8D .lea, loadSreg 0x8E, group [fun rm => .done (.popRm rm)] 0x8F]

def map9 : List Decoder :=
  [.done .nop, .done .xchgAxCx, .done (.xchgAxDxBx .dxDl), .done (.xchgAxDxBx .bxBl),
   .done (.xchgAxIndex .spAh), .done (.xchgAxIndex .bpCh), .done (.xchgAxIndex .siDh), .done (.xchgAxIndex .diBh),
   .done .cbw, .done .cwd, farPtr .callFar, .done .wait, .done .pushf, .done .popf, .done .sahf, .done .lahf]

def mapA : List Decoder :=
  [imm16 (.movAccMem .byte), imm16 (.movAccMem .word), imm16 (.movMemAcc .byte), imm16 (.movMemAcc .word)] ++
  wOps .movs ++ wOps .cmps ++ accForms .testAccImm ++ wOps .stos ++ wOps .lods ++ wOps .scas

def mapB : List Decoder := regImms .byte .movRegImm ++ regImms .word .movRegImm

def mapC : List Decoder :=
  [.fail (.unassigned 0xC0), .fail (.unassigned 0xC1), imm16 .retNearImm, .done .retNear,
   regMem 0xC4 .les, regMem 0xC5 .lds,
   group [fun rm => imm .byte fun v => .movRmImm v rm] 0xC6, group [fun rm => imm .word fun v => .movRmImm v rm] 0xC7,
   .fail (.unassigned 0xC8), .fail (.unassigned 0xC9), imm16 .retFarImm, .done .retFar,
   .done .int3, imm8 .int, .done .into, .done .iret]

def mapD : List Decoder :=
  [shiftGroup 0xD0 .byte .one, shiftGroup 0xD1 .word .one, shiftGroup 0xD2 .byte .cl, shiftGroup 0xD3 .word .cl,
   adjust 0xD4 .aam, adjust 0xD5 .aad, .fail (.unassigned 0xD6), .done .xlat,
   escape 0, escape 1, escape 2, escape 3, escape 4, escape 5, escape 6, escape 7]

def mapE : List Decoder :=
  [imm8 .loopnz, imm8 .loopz, imm8 .loop, imm8 .jcxz,
   imm8 (.inImm .byte), imm8 (.inImm .word), imm8 (.outImm .byte), imm8 (.outImm .word),
   imm16 .callNear, imm16 .jmpNear, farPtr .jmpFar, imm8 .jmpShort] ++ wOps .inDx ++ wOps .outDx

def mapF : List Decoder :=
  [.done .lock, .fail (.unassigned 0xF1), .done .repne, .done .rep, .done .hlt, .done .cmc,
   unaryGroup 0xF6 .byte, unaryGroup 0xF7 .word,
   .done .clc, .done .stc, .done .cli, .done .sti, .done .cld, .done .std,
   group [fun rm => .done (.incRm .byte rm), fun rm => .done (.decRm .byte rm)] 0xFE, wordGroup 0xFF]

/-- The sixteen rows; 60h to 6Fh are not assigned. -/
def maps : List (List Decoder) :=
  [map0, map1, map2, map3, map4, map5, [], map7, map8, map9, mapA, mapB, mapC, mapD, mapE, mapF]

/-- The decoder a first byte selects. -/
def ofOpcode (op : Byte) : Decoder :=
  (maps.getD (op.toNat / 16) []).getD (op.toNat % 16) (.fail (.unassigned op))

/-- The whole instruction, first byte first (rule R98). A prefix byte is an instruction of one byte. -/
def instruction : Decoder := .byte ofOpcode

end Decoder

/-- Decode the instruction at the start of a list of bytes: the instruction and its length in bytes. -/
def decode (bs : List Byte) : Except DecodeError (Instr × Nat) := Decoder.instruction.run bs 0

/-- `count` bytes of a number, byte 0 (bits 7..0) first. -/
def bytesOf (v : Nat) : (count : Nat) → List Byte
  | 0 => []
  | n + 1 => BitVec.ofNat 8 v :: bytesOf (v / 256) n

/-- The longest instruction without prefixes is six bytes (30_encoding.md rule R112). -/
def maxLength : Nat := 6

/-- The instruction whose bits are the low `nbits` of `w`, numbered from the first byte up, every bit above them zero. -/
def decodeTableWord (nbits w : Nat) : Option Instr :=
  match decode (bytesOf (w % 2 ^ nbits) maxLength) with
  | .ok (i, _) => some i
  | .error _ => none

/-! ## The encoder -/

namespace Encode

/-- The two bytes of a word in the instruction stream, low byte first. -/
def word (v : Word) : List Byte := [loByte v, hiByte v]

/-- `mod reg r/m` (rule R84). -/
def modrmByte (m : BitVec 2) (reg rm : BitVec 3) : Byte := m ++ reg ++ rm

/-- The ModRM byte and its displacement bytes (rules R85 and R88). -/
def rm (reg : BitVec 3) : Rm → List Byte
  | .reg r => [modrmByte 3 reg r.bits]
  | .mem (.direct a) => modrmByte 0 reg 6 :: word a
  | .mem (.based b .none) => [modrmByte 0 reg b.bits]
  | .mem (.based b (.d8 d)) => [modrmByte 1 reg b.bits, d]
  | .mem (.based b (.d16 d)) => modrmByte 2 reg b.bits :: word d

def wBit : Width → BitVec 1
  | .byte => 0
  | .word => 1

def dBit : Dir → BitVec 1
  | .fromReg => 0
  | .toReg => 1

def vBit : Count → BitVec 1
  | .one => 0
  | .cl => 1

def immBytes : Imm → List Byte
  | .byte v => [v]
  | .word v => word v

def immWidth : Imm → BitVec 1
  | .byte _ => 0
  | .word _ => 1

/-- s:w of the immediate group (rule R92). -/
def arithSw : ArithImm → BitVec 2
  | .op80 _ => 0
  | .op81 _ => 1
  | .op82 _ => 2
  | .op83 _ => 3

def arithBytes : ArithImm → List Byte
  | .op80 v => [v]
  | .op81 v => word v
  | .op82 v => [v]
  | .op83 v => [v]

/-- `00 ooo 0 d w | mod reg r/m` -/
def dwForm (o : BitVec 3) (w : Width) (d : Dir) (m : Rm) (r : Reg) : List Byte :=
  ((0 : BitVec 2) ++ o ++ (0 : BitVec 1) ++ dBit d ++ wBit w) :: rm r.bits m

/-- `100000 s w | mod ooo r/m | data` -/
def arithForm (o : BitVec 3) (imm : ArithImm) (m : Rm) : List Byte :=
  ((0x20 : BitVec 6) ++ arithSw imm) :: (rm o m ++ arithBytes imm)

/-- `1000000 w | mod ooo r/m | data` -/
def logicForm (o : BitVec 3) (imm : Imm) (m : Rm) : List Byte :=
  ((0x40 : BitVec 7) ++ immWidth imm) :: (rm o m ++ immBytes imm)

/-- `00 ooo 10 w | data` -/
def accForm (o : BitVec 3) (imm : Imm) : List Byte :=
  ((0 : BitVec 2) ++ o ++ (2 : BitVec 2) ++ immWidth imm) :: immBytes imm

/-- A seven-bit pattern followed by w, then a register form. -/
def wForm (op : BitVec 7) (w : Width) (m : Rm) (r : BitVec 3) : List Byte := (op ++ wBit w) :: rm r m

/-- A seven-bit pattern followed by w, alone. -/
def wOp (op : BitVec 7) (w : Width) : List Byte := [op ++ wBit w]

/-- A five-bit pattern followed by a register number. -/
def regOp (op : BitVec 5) (r : Reg) : List Byte := [op ++ r.bits]

/-- `000 reg 11x` and `001 reg 110`: three bits, a segment register number, three bits. -/
def sregOp (hi : BitVec 3) (sr : SReg) (lo : BitVec 3) : List Byte := [hi ++ sr.bits ++ lo]

/-- `110100 v w | mod ttt r/m` -/
def shiftForm (t : BitVec 3) (w : Width) (v : Count) (m : Rm) : List Byte :=
  ((0x34 : BitVec 6) ++ vBit v ++ wBit w) :: rm t m

/-- `0111 cccc | disp` -/
def jcc (c : BitVec 4) (d : Byte) : List Byte := [(7 : BitVec 4) ++ c, d]

end Encode

open Encode in
/-- The bytes of a well-formed instruction, from the encoding line of its rule (files 40 to 45). -/
def encode : Instr → List Byte
  | .addRmReg w d m r => dwForm 0 w d m r
  | .addRmImm v m => arithForm 0 v m
  | .addAccImm v => accForm 0 v
  | .orRmReg w d m r => dwForm 1 w d m r
  | .orRmImm v m => logicForm 1 v m
  | .orAccImm v => accForm 1 v
  | .adcRmReg w d m r => dwForm 2 w d m r
  | .adcRmImm v m => arithForm 2 v m
  | .adcAccImm v => accForm 2 v
  | .sbbRmReg w d m r => dwForm 3 w d m r
  | .sbbRmImm v m => arithForm 3 v m
  | .sbbAccImm v => accForm 3 v
  | .andRmReg w d m r => dwForm 4 w d m r
  | .andRmImm v m => logicForm 4 v m
  | .andAccImm v => accForm 4 v
  | .subRmReg w d m r => dwForm 5 w d m r
  | .subRmImm v m => arithForm 5 v m
  | .subAccImm v => accForm 5 v
  | .xorRmReg w d m r => dwForm 6 w d m r
  | .xorRmImm v m => logicForm 6 v m
  | .xorAccImm v => accForm 6 v
  | .cmpRmReg w d m r => dwForm 7 w d m r
  | .cmpRmImm v m => arithForm 7 v m
  | .cmpAccImm v => accForm 7 v
  | .pushSreg sr => sregOp 0 sr 6
  | .popEs => sregOp 0 .es 7
  | .popSs => sregOp 0 .ss 7
  | .popDs => sregOp 0 .ds 7
  | .seg sr => sregOp 1 sr 6
  | .daa => [0x27]
  | .das => [0x2F]
  | .aaa => [0x37]
  | .aas => [0x3F]
  | .incR16 r => regOp 8 r
  | .decR16 r => regOp 9 r
  | .pushR16 r => regOp 10 r
  | .popR16 r => regOp 11 r
  | .jo d => jcc 0 d
  | .jno d => jcc 1 d
  | .jb d => jcc 2 d
  | .jnb d => jcc 3 d
  | .je d => jcc 4 d
  | .jne d => jcc 5 d
  | .jbe d => jcc 6 d
  | .jnbe d => jcc 7 d
  | .js d => jcc 8 d
  | .jns d => jcc 9 d
  | .jp d => jcc 10 d
  | .jnp d => jcc 11 d
  | .jl d => jcc 12 d
  | .jnl d => jcc 13 d
  | .jle d => jcc 14 d
  | .jnle d => jcc 15 d
  | .testRmReg w m r => wForm 0x42 w m r.bits
  | .xchgRmReg w m r => wForm 0x43 w m r.bits
  | .movRmReg w d m r => ((0x22 : BitVec 6) ++ dBit d ++ wBit w) :: rm r.bits m
  | .movRmSreg m sr => 0x8C :: rm ((0 : BitVec 1) ++ sr.bits) m
  | .lea r m => 0x8D :: rm r.bits (.mem m)
  | .movEsRm m => 0x8E :: rm ((0 : BitVec 1) ++ SReg.bits .es) m
  | .movSsRm m => 0x8E :: rm ((0 : BitVec 1) ++ SReg.bits .ss) m
  | .movDsRm m => 0x8E :: rm ((0 : BitVec 1) ++ SReg.bits .ds) m
  | .popRm m => 0x8F :: rm 0 m
  | .nop => [0x90]
  | .xchgAxCx => [0x91]
  | .xchgAxDxBx r => regOp 0x12 r
  | .xchgAxIndex r => regOp 0x12 r
  | .cbw => [0x98]
  | .cwd => [0x99]
  | .callFar off sgm => 0x9A :: (word off ++ word sgm)
  | .wait => [0x9B]
  | .pushf => [0x9C]
  | .popf => [0x9D]
  | .sahf => [0x9E]
  | .lahf => [0x9F]
  | .movAccMem w a => ((0x50 : BitVec 7) ++ wBit w) :: word a
  | .movMemAcc w a => ((0x51 : BitVec 7) ++ wBit w) :: word a
  | .movs w => wOp 0x52 w
  | .cmps w => wOp 0x53 w
  | .stos w => wOp 0x55 w
  | .lods w => wOp 0x56 w
  | .scas w => wOp 0x57 w
  | .testAccImm v => ((0x54 : BitVec 7) ++ immWidth v) :: immBytes v
  | .movRegImm v r => ((0xB : BitVec 4) ++ immWidth v ++ r.bits) :: immBytes v
  | .retNearImm n => 0xC2 :: word n
  | .retNear => [0xC3]
  | .les r m => 0xC4 :: rm r.bits (.mem m)
  | .lds r m => 0xC5 :: rm r.bits (.mem m)
  | .movRmImm v m => ((0x63 : BitVec 7) ++ immWidth v) :: (rm 0 m ++ immBytes v)
  | .retFarImm n => 0xCA :: word n
  | .retFar => [0xCB]
  | .int3 => [0xCC]
  | .int t => [0xCD, t]
  | .into => [0xCE]
  | .iret => [0xCF]
  | .rol w v m => shiftForm 0 w v m
  | .ror w v m => shiftForm 1 w v m
  | .rcl w v m => shiftForm 2 w v m
  | .rcr w v m => shiftForm 3 w v m
  | .shl w v m => shiftForm 4 w v m
  | .shr w v m => shiftForm 5 w v m
  | .sar w v m => shiftForm 7 w v m
  | .aam => [0xD4, 0x0A]
  | .aad => [0xD5, 0x0A]
  | .xlat => [0xD7]
  | .esc op m => ((0x1B : BitVec 5) ++ op.extractLsb' 3 3) :: rm (op.extractLsb' 0 3) m
  | .loopnz d => [0xE0, d]
  | .loopz d => [0xE1, d]
  | .loop d => [0xE2, d]
  | .jcxz d => [0xE3, d]
  | .inImm w p => [(0x72 : BitVec 7) ++ wBit w, p]
  | .outImm w p => [(0x73 : BitVec 7) ++ wBit w, p]
  | .callNear d => 0xE8 :: word d
  | .jmpNear d => 0xE9 :: word d
  | .jmpFar off sgm => 0xEA :: (word off ++ word sgm)
  | .jmpShort d => [0xEB, d]
  | .inDx w => wOp 0x76 w
  | .outDx w => wOp 0x77 w
  | .lock => [0xF0]
  | .repne => [0xF2]
  | .rep => [0xF3]
  | .hlt => [0xF4]
  | .cmc => [0xF5]
  | .testRmImm v m => ((0x7B : BitVec 7) ++ immWidth v) :: (rm 0 m ++ immBytes v)
  | .not w m => wForm 0x7B w m 2
  | .neg w m => wForm 0x7B w m 3
  | .mul w m => wForm 0x7B w m 4
  | .imul w m => wForm 0x7B w m 5
  | .div w m => wForm 0x7B w m 6
  | .idiv w m => wForm 0x7B w m 7
  | .clc => [0xF8]
  | .stc => [0xF9]
  | .cli => [0xFA]
  | .sti => [0xFB]
  | .cld => [0xFC]
  | .std => [0xFD]
  | .incRm w m => wForm 0x7F w m 0
  | .decRm w m => wForm 0x7F w m 1
  | .callRm m => 0xFF :: rm 2 m
  | .callFarMem m => 0xFF :: rm 3 (.mem m)
  | .jmpRm m => 0xFF :: rm 4 m
  | .jmpFarMem m => 0xFF :: rm 5 (.mem m)
  | .pushRm m => 0xFF :: rm 6 m

end Sys2Proof
end

