-- ==== Sys2Proof/Machine/State.lean ====
section
/-! DEFINITION. The state of the machine as plain data, the reasons a step can stop, the state after reset, and one
named update for each part of the state. The registers are 10_state.md rules R20 to R34, the hidden state R37 to R42,
the host's side 92_eei_decisions.md section 3. Fields that are the model's own bookkeeping say so. -/

namespace Sys2Proof.Machine

/-- The eight general registers (10_state.md rule R21). -/
structure Regs where
  ax : Word
  cx : Word
  dx : Word
  bx : Word
  sp : Word
  bp : Word
  si : Word
  di : Word
  deriving DecidableEq, Repr

/-- The four segment registers (10_state.md rule R25). -/
structure Segs where
  es : Word
  cs : Word
  ss : Word
  ds : Word
  deriving DecidableEq, Repr

/-- The nine defined bits of FLAGS (10_state.md rules R29 and R32). -/
structure Flags where
  cf : Bool
  pf : Bool
  af : Bool
  zf : Bool
  sf : Bool
  tf : Bool
  iF : Bool
  df : Bool
  oF : Bool
  deriving DecidableEq, Repr

/-- The six status flags by name (10_state.md rule R29). -/
inductive StatusFlag where
  | cf
  | pf
  | af
  | zf
  | sf
  | oF
  deriving DecidableEq, Repr

/-- The repeat kind (10_state.md rule R42): `repnz` has z = 0, `repz` has z = 1. -/
inductive RepKind where
  | repnz
  | repz
  deriving DecidableEq, Repr

/-- The per-instruction prefix state (10_state.md rule R42). -/
structure Prefixes where
  segOvr : Option SReg
  rep : Option RepKind
  lock : Bool
  deriving DecidableEq, Repr

/-- What the instruction in progress does at its next turn: a further element of a repeated string instruction
(43_string.md rule R241), or a further look at TEST (45_processor_control.md rule R330). -/
inductive InProgress where
  | movs (w : Width)
  | cmps (w : Width)
  | stos (w : Width)
  | lods (w : Width)
  | scas (w : Width)
  | wait
  deriving DecidableEq, Repr

/-- The latches of 10_state.md rules R38 (NMI), R39 (the inhibit window) and R40 (halt). -/
structure Latches where
  nmiPending : Bool
  inhibit : Bool
  halted : Bool
  deriving DecidableEq, Repr

/-- Where the machine stands inside an instruction: what 60_exceptions.md rules R358 and R364 call t0 and ssload, the
address of the first byte of the instruction (43_string.md rule R242), and the model's bookkeeping. -/
structure Progress where
  /-- the model's: a prefix of the instruction in progress has been executed, or it has a further turn to run -/
  mid : Bool
  /-- offset of the first byte (first prefix byte, if any) of the instruction in progress -/
  instrIp : Word
  /-- t0: TF when the instruction began -/
  t0 : Bool
  /-- ssload: the instruction just completed was MOV SS,r/m or POP SS -/
  ssLoad : Bool
  /-- the model's: the turn still to run -/
  repeating : Option InProgress
  /-- the model's: no instruction has been fetched since reset (70_reset_and_hazards.md rule R391) -/
  freshReset : Bool
  deriving DecidableEq, Repr

/-- What answers at an address: memory that is written, memory that is not, nothing, or a device
(20_memory.md rule R61). -/
inductive MemKind where
  | ram
  | rom
  | absent
  | device
  deriving DecidableEq, Repr

/-- The addresses from `base` on, `size` of them, and what answers there. -/
structure Region where
  base : Nat
  size : Nat
  kind : MemKind
  deriving DecidableEq, Repr

/-- One byte another bus master writes. -/
structure MasterWrite where
  addr : BitVec 20
  value : Byte
  deriving DecidableEq, Repr

/-- What the host may do between two steps and, for the last two, in the course of the step that follows
(92_eei_decisions.md section 3). -/
inductive HostEvent where
  /-- a rising edge of NMI -/
  | nmiEdge
  /-- INTR changes its level -/
  | intrLevel (high : Bool)
  /-- TEST changes its level -/
  | testLevel (low : Bool)
  /-- RESET goes high and low again -/
  | reset
  /-- another bus master writes one byte -/
  | busWrite (w : MasterWrite)
  /-- other bus masters write these bytes at the next gap between two accesses of the step (70_reset_and_hazards.md
  rule R409) -/
  | within (ws : List MasterWrite)
  /-- RESET goes high in the course of the step, after so many more of its bus cycles that leave a trace outside the CPU
  (70_reset_and_hazards.md rule R390) -/
  | resetWithin (cycles : Nat)
  deriving DecidableEq, Repr

/-- What the CPU shows the host, apart from memory cycles (92_eei_decisions.md section 3). -/
inductive BusEvent where
  /-- one byte read from a port -/
  | ioRead (port : Word) (v : Byte)
  /-- one byte written to a port -/
  | ioWrite (port : Word) (v : Byte)
  /-- the interrupt acknowledge pair and the type byte it fetched -/
  | intAck (type : Byte)
  /-- the halt status -/
  | halt
  /-- the word an ESC reads for the coprocessor: its six x bits, the physical addresses of the two bytes, the word -/
  | escape (op : BitVec 6) (low high : Nat) (v : Word)
  /-- one byte read from a memory-mapped device -/
  | memRead (addr : Nat) (v : Byte)
  /-- one byte written to a memory-mapped device -/
  | memWrite (addr : Nat) (v : Byte)
  deriving DecidableEq, Repr

/-- The host's side: the platform, the two levels the CPU samples, the answers and events still to come, and what was
shown. -/
structure Env where
  /-- the MN/MX strap: maximum mode (92_eei_decisions.md section 3) -/
  maxMode : Bool
  /-- the platform's memory map (20_memory.md rule R61): the first region that holds an address counts; RAM elsewhere -/
  map : List Region
  intr : Bool
  testLow : Bool
  /-- the model's: the bytes the ports will answer, in order; when it is empty a port answers a free value -/
  portIn : List Byte
  /-- the model's: the bytes the memory-mapped devices will answer, in order; when it is empty, a free value -/
  devIn : List Byte
  /-- the model's: the type bytes the interrupt controller will answer, in order; when it is empty, a free value -/
  ackIn : List Byte
  /-- the model's: one list of events for each step to come; none when it is empty -/
  inputs : List (List HostEvent)
  /-- the model's: writes of other bus masters that wait for the bus, one list for each gap to come -/
  waiting : List (List MasterWrite)
  /-- the model's: RESET goes high in this step after so many more bus cycles; none: it does not -/
  cut : Option Nat
  /-- the model's: what the CPU showed the host, oldest first -/
  busLog : List BusEvent
  deriving DecidableEq, Repr

/-- The state of the machine. -/
structure State where
  regs : Regs
  segs : Segs
  ip : Word
  flags : Flags
  mem : List Host.Cell
  pre : Prefixes
  latches : Latches
  progress : Progress
  env : Env
  /-- the model's: bytes that were overwritten while they could already be in the prefetch queue, with the value they
  had (20_memory.md rule R76) -/
  stale : List Host.Cell
  /-- the model's: how many free values have been drawn -/
  draws : Nat
  deriving DecidableEq, Repr

/-- Nothing on this hardware stops the machine with a fault: every interrupt it can take is entered
(60_exceptions.md rule R354 lists the events that are no interrupt, and says what happens instead). -/
inductive Fault where
  deriving DecidableEq, Repr

/-- Why a step gives no next state. -/
inductive Refusal where
  /-- raised by a dispatch arm that has no meaning yet; safe -/
  | notModelled (mnemonic : String)
  /-- raised by the step when no row of the opcode map matches (30_encoding.md rule R105, 92_eei_decisions.md D7: the
  terminal state `Undefined`); safe, since the hardware does something there -/
  | undefinedEncoding (e : DecodeError)
  /-- raised by the step for a repeat prefix before an instruction that is not a string primitive (30_encoding.md rule
  R97, 93_implementation_defined.md U5); safe, since the hardware does something there -/
  | repeatBeforeNonString
  deriving DecidableEq, Repr

/-- What a meaning and a step answer. -/
abbrev Answer := Host.Outcome State Fault Refusal

/-- No prefix is active. -/
def Prefixes.none : Prefixes := { segOvr := Option.none, rep := Option.none, lock := false }

/-- No instruction is in progress. -/
def Progress.idle : Progress :=
  { mid := false, instrIp := 0, t0 := false, ssLoad := false, repeating := Option.none, freshReset := false }

/-- The state after reset (10_state.md rule R43). CS, IP, IF and TF are the spec's; the other registers and flags, for
which it gives no value, are zero (DESIGN CHOICE, unsafe: log entry 1); the host is quiet, with TEST low, and the
platform is RAM in minimum mode (92_eei_decisions.md section 3, last paragraph; log entries 2, 4 and 15). -/
def State.reset : State where
  regs := { ax := 0, cx := 0, dx := 0, bx := 0, sp := 0, bp := 0, si := 0, di := 0 }
  segs := { es := 0, cs := 0xFFFF, ss := 0, ds := 0 }
  ip := 0
  flags :=
    { cf := false, pf := false, af := false, zf := false, sf := false, tf := false, iF := false, df := false,
      oF := false }
  mem := []
  pre := Prefixes.none
  latches := { nmiPending := false, inhibit := false, halted := false }
  progress := { Progress.idle with freshReset := true }
  env :=
    { maxMode := false, map := [], intr := false, testLow := true, portIn := [], devIn := [], ackIn := [], inputs := [],
      waiting := [], cut := none, busLog := [] }
  stale := []
  draws := 0

def State.setRegs (s : State) (v : Regs) : State := { s with regs := v }
def State.setSegs (s : State) (v : Segs) : State := { s with segs := v }
def State.setIp (s : State) (v : Word) : State := { s with ip := v }
def State.setFlags (s : State) (v : Flags) : State := { s with flags := v }
def State.setMem (s : State) (v : List Host.Cell) : State := { s with mem := v }
def State.setPre (s : State) (v : Prefixes) : State := { s with pre := v }
def State.setLatches (s : State) (v : Latches) : State := { s with latches := v }
def State.setProgress (s : State) (v : Progress) : State := { s with progress := v }
def State.setEnv (s : State) (v : Env) : State := { s with env := v }
def State.setStale (s : State) (v : List Host.Cell) : State := { s with stale := v }
def State.setDraws (s : State) (v : Nat) : State := { s with draws := v }

end Sys2Proof.Machine
end

