-- ==== Sys2Proof/Machine/Flags.lean ====
section
/-! DEFINITION. Every flag computation: the 16-bit image of FLAGS (10_state.md rules R29 and R32), the result and flag
functions of 41_arithmetic.md rule R160 on unbounded integers, those of the logic instructions (42_logic_shift_rotate.md
rule R211), and the flags an instruction leaves undefined (93_implementation_defined.md U1). -/

namespace Sys2Proof.Machine

/-- One bit at position `i` of a word. -/
def bitAt (i : Nat) (b : Bool) : Word := BitVec.ofNat 16 (b.toNat * 2 ^ i)

/-- The seven reserved positions of FLAGS, bits 1, 3, 5 and 12 to 15 (10_state.md rule R32). -/
def reservedMask : Word := 0xF02A

/-- The 16-bit image of FLAGS: the nine defined bits at their places (10_state.md rule R29), the reserved positions from
the parameter (rule R32). -/
def Flags.image (f : Flags) : Word :=
  bitAt 0 f.cf ||| bitAt 2 f.pf ||| bitAt 4 f.af ||| bitAt 6 f.zf ||| bitAt 7 f.sf ||| bitAt 8 f.tf ||| bitAt 9 f.iF
    ||| bitAt 10 f.df ||| bitAt 11 f.oF ||| (Config.reservedFlagBits &&& reservedMask)

/-- The nine flags of an image; the reserved positions are ignored (10_state.md rule R32, 40_data_transfer.md rule R151). -/
def Flags.ofImage (v : Word) : Flags where
  cf := v.getLsbD 0
  pf := v.getLsbD 2
  af := v.getLsbD 4
  zf := v.getLsbD 6
  sf := v.getLsbD 7
  tf := v.getLsbD 8
  iF := v.getLsbD 9
  df := v.getLsbD 10
  oF := v.getLsbD 11

/-- The flags SAHF loads, from bits 7, 6, 4, 2 and 0 (40_data_transfer.md rule R149). -/
def Flags.loadLow (f : Flags) (v : Byte) : Flags :=
  { f with sf := v.getLsbD 7, zf := v.getLsbD 6, af := v.getLsbD 4, pf := v.getLsbD 2, cf := v.getLsbD 0 }

/-- PF of a byte: an even number of 1 bits (41_arithmetic.md rule R160). -/
def evenParity (b : Byte) : Bool :=
  !(b.getLsbD 0 ^^ b.getLsbD 1 ^^ b.getLsbD 2 ^^ b.getLsbD 3 ^^ b.getLsbD 4 ^^ b.getLsbD 5 ^^ b.getLsbD 6 ^^ b.getLsbD 7)

/-- SZP(r) (41_arithmetic.md rule R160). PF looks at the low byte of a word too. -/
def Flags.szp {n : Nat} (f : Flags) (r : BitVec n) : Flags :=
  { f with sf := r.msb, zf := r == 0#n, pf := evenParity (r.setWidth 8) }

/-- The result of add_N (41_arithmetic.md rule R160). -/
def addResult {n : Nat} (a b : BitVec n) (c : Bool) : BitVec n := BitVec.ofNat n (a.toNat + b.toNat + c.toNat)

/-- The flags of add_N (41_arithmetic.md rule R160). -/
def Flags.add {n : Nat} (f : Flags) (a b : BitVec n) (c : Bool) : Flags :=
  { f.szp (addResult a b c) with
    cf := decide (2 ^ n ≤ a.toNat + b.toNat + c.toNat)
    af := decide (16 ≤ a.toNat % 16 + b.toNat % 16 + c.toNat)
    oF := (a.msb == b.msb) && (addResult a b c).msb != a.msb }

/-- The result of sub_N, a - b - c (41_arithmetic.md rule R160). -/
def subResult {n : Nat} (a b : BitVec n) (c : Bool) : BitVec n :=
  BitVec.ofInt n ((a.toNat : Int) - (b.toNat : Int) - (c.toNat : Int))

/-- The flags of sub_N (41_arithmetic.md rule R160). -/
def Flags.sub {n : Nat} (f : Flags) (a b : BitVec n) (c : Bool) : Flags :=
  { f.szp (subResult a b c) with
    cf := decide (a.toNat < b.toNat + c.toNat)
    af := decide (a.toNat % 16 < b.toNat % 16 + c.toNat)
    oF := (a.msb != b.msb) && (subResult a b c).msb != a.msb }

/-- The defined part of logic_flags(r): OF and CF are cleared (42_logic_shift_rotate.md rule R211). -/
def Flags.logic {n : Nat} (f : Flags) (r : BitVec n) : Flags := { f.szp r with oF := false, cf := false }

/-- CF kept from `f`: INC and DEC (41_arithmetic.md rules R167 and R177). -/
def Flags.keepCarry (f g : Flags) : Flags := { g with cf := f.cf }

/-- CF and OF both set to `b`: MUL and IMUL (41_arithmetic.md rules R186 and R187). -/
def Flags.setCarryOverflow (f : Flags) (b : Bool) : Flags := { f with cf := b, oF := b }

/-- AF and CF set: the decimal adjustments (41_arithmetic.md rules R169, R170, R184 and R185). -/
def Flags.setAdjust (f : Flags) (a c : Bool) : Flags := { f with af := a, cf := c }

/-- IF and TF cleared: every interrupt entry (60_exceptions.md rule R365). -/
def Flags.mask (f : Flags) : Flags := { f with iF := false, tf := false }

/-- One status flag set to a value. -/
def Flags.setStatus (f : Flags) (n : StatusFlag) (b : Bool) : Flags :=
  match n with
  | .cf => { f with cf := b }
  | .pf => { f with pf := b }
  | .af => { f with af := b }
  | .zf => { f with zf := b }
  | .sf => { f with sf := b }
  | .oF => { f with oF := b }

/-- One flag left undefined: it takes the next free value and then holds it (93_implementation_defined.md U1;
log entry 9). -/
def State.undefineFlag (s : State) (n : StatusFlag) : State :=
  (s.setFlags (s.flags.setStatus n (Config.freeFlag s.draws))).setDraws (s.draws + 1)

/-- Each of the flags named left undefined, each with a draw of its own (92_eei_decisions.md D28). -/
def State.undefine (s : State) (ns : List StatusFlag) : State := ns.foldl State.undefineFlag s

/-- All six status flags (41_arithmetic.md rules R191 and R192). -/
def allStatus : List StatusFlag := [.cf, .pf, .af, .zf, .sf, .oF]

end Sys2Proof.Machine
end

