-- ==== Sys2Proof/Machine/Ops.lean ====
section
/-! DEFINITION. The named operations over registers, memory, the stack and the I/O space, and taking an interrupt and
returning from one. Every access of every instruction goes through these. -/

namespace Sys2Proof.Machine

/-! ## Registers -/

/-- r16[i] (10_state.md rule R21). -/
def Regs.get16 (r : Regs) (i : Reg) : Word :=
  match i with
  | .axAl => r.ax
  | .cxCl => r.cx
  | .dxDl => r.dx
  | .bxBl => r.bx
  | .spAh => r.sp
  | .bpCh => r.bp
  | .siDh => r.si
  | .diBh => r.di

/-- r16[i] <- v. -/
def Regs.set16 (r : Regs) (i : Reg) (v : Word) : Regs :=
  match i with
  | .axAl => { r with ax := v }
  | .cxCl => { r with cx := v }
  | .dxDl => { r with dx := v }
  | .bxBl => { r with bx := v }
  | .spAh => { r with sp := v }
  | .bpCh => { r with bp := v }
  | .siDh => { r with si := v }
  | .diBh => { r with di := v }

/-- r8[i] (10_state.md rule R22): the low half of the first four registers, then their high half. -/
def Regs.get8 (r : Regs) (i : Reg) : Byte :=
  match i with
  | .axAl => loByte r.ax
  | .cxCl => loByte r.cx
  | .dxDl => loByte r.dx
  | .bxBl => loByte r.bx
  | .spAh => hiByte r.ax
  | .bpCh => hiByte r.cx
  | .siDh => hiByte r.dx
  | .diBh => hiByte r.bx

/-- r8[i] <- v: the other half of the 16-bit register is unchanged (10_state.md rule R22). -/
def Regs.set8 (r : Regs) (i : Reg) (v : Byte) : Regs :=
  match i with
  | .axAl => { r with ax := joinBytes (hiByte r.ax) v }
  | .cxCl => { r with cx := joinBytes (hiByte r.cx) v }
  | .dxDl => { r with dx := joinBytes (hiByte r.dx) v }
  | .bxBl => { r with bx := joinBytes (hiByte r.bx) v }
  | .spAh => { r with ax := joinBytes v (loByte r.ax) }
  | .bpCh => { r with cx := joinBytes v (loByte r.cx) }
  | .siDh => { r with dx := joinBytes v (loByte r.dx) }
  | .diBh => { r with bx := joinBytes v (loByte r.bx) }

/-- The register operand of an instruction of width `w` (30_encoding.md rules R86 and R87). -/
def Regs.get (r : Regs) (w : Width) (i : Reg) : BitVec w.bits :=
  match w with
  | .byte => r.get8 i
  | .word => r.get16 i

def Regs.set (r : Regs) (w : Width) (i : Reg) (v : BitVec w.bits) : Regs :=
  match w, v with
  | .byte, v => r.set8 i v
  | .word, v => r.set16 i v

/-- sreg[i] (10_state.md rule R25). -/
def Segs.get (g : Segs) (i : SReg) : Word :=
  match i with
  | .es => g.es
  | .cs => g.cs
  | .ss => g.ss
  | .ds => g.ds

def Segs.set (g : Segs) (i : SReg) (v : Word) : Segs :=
  match i with
  | .es => { g with es := v }
  | .cs => { g with cs := v }
  | .ss => { g with ss := v }
  | .ds => { g with ds := v }

def State.reg (s : State) (w : Width) (i : Reg) : BitVec w.bits := s.regs.get w i
def State.setReg (s : State) (w : Width) (i : Reg) (v : BitVec w.bits) : State := s.setRegs (s.regs.set w i v)
def State.reg16 (s : State) (i : Reg) : Word := s.regs.get16 i
def State.setReg16 (s : State) (i : Reg) (v : Word) : State := s.setRegs (s.regs.set16 i v)
def State.setSeg (s : State) (i : SReg) (v : Word) : State := s.setSegs (s.segs.set i v)

/-- The accumulator: AL or AX (00_scope.md rule R14). -/
def State.acc (s : State) (w : Width) : BitVec w.bits := s.reg w .axAl
def State.setAcc (s : State) (w : Width) (v : BitVec w.bits) : State := s.setReg w .axAl v

/-- AL and AH (10_state.md rule R22). -/
def State.al (s : State) : Byte := s.regs.get8 .axAl
def State.ah (s : State) : Byte := s.regs.get8 .spAh

/-- AX as AH : AL. -/
def State.setAhAl (s : State) (h l : Byte) : State := s.setReg16 .axAl (joinBytes h l)

/-! ## Memory -/

/-- The byte held at a physical address (20_memory.md rule R55). One that nothing has written since power-up holds a free
value (60_exceptions.md rule R370; log entry 3). -/
def Memory.read : List Host.Cell → Nat → Byte
  | [], a => Config.powerUp a
  | (k, v) :: m, a => if k = a then v else Memory.read m a

/-- One byte stored (20_memory.md rule R56). The addresses listed rise, and a byte that was written is listed. -/
def Memory.write : List Host.Cell → Nat → Byte → List Host.Cell
  | [], a, v => [(a, v)]
  | (k, x) :: m, a, v =>
    if k < a then (k, x) :: Memory.write m a v
    else if k = a then (a, v) :: m
    else (a, v) :: (k, x) :: m

/-- The canonical form, within the 20-bit address space (20_memory.md rule R50). -/
abbrev Memory.wf (m : List Host.Cell) : Prop := m.Pairwise (fun a b => a.1 < b.1) ∧ ∀ c ∈ m, c.1 < 2 ^ 20

/-- phys(seg, off) (20_memory.md rule R51). -/
def phys (sg off : Word) : Nat := (sg.toNat * 16 + off.toNat) % 2 ^ 20

/-- The byte memory holds at a physical address. -/
def State.byteAt (s : State) (a : Nat) : Byte := Memory.read s.mem a

def Region.holds (r : Region) (a : Nat) : Bool := decide (r.base ≤ a) && decide (a < r.base + r.size)

/-- What answers at a physical address (20_memory.md rule R61; log entry 4). -/
def State.kindAt (s : State) (a : Nat) : MemKind :=
  match s.env.map.find? fun r => r.holds a with
  | none => .ram
  | some r => r.kind

/-- The byte at `a` may already be in the prefetch queue: it is one of the QUEUE_BYTES bytes after the bytes fetched so
far (20_memory.md rule R76, 70_reset_and_hazards.md rule R404). -/
def State.queued (s : State) (a : Nat) : Bool :=
  (List.range Config.queueBytes).any fun i => phys s.segs.cs (s.ip + BitVec.ofNat 16 i) == a

/-- The bytes a fetch may still see in place of memory, after the byte at `a` becomes `v`
(93_implementation_defined.md U7; log entry 10). -/
def State.staleAfter (s : State) (a : Nat) (v : Byte) : List Host.Cell :=
  if s.queued a && s.byteAt a != v then (a, s.byteAt a) :: s.stale else s.stale

/-- A byte sent to an address: RAM stores it, and nothing else does (20_memory.md rule R61). -/
def State.store (s : State) (a : Nat) (v : Byte) : State :=
  if s.kindAt a = .ram then (s.setMem (Memory.write s.mem a v)).setStale (s.staleAfter a v) else s

/-! ## The bus -/

/-- No other master gets the bus: a LOCK prefix is in force, on a machine in maximum mode; in minimum mode there is no
lock output (20_memory.md rule R71, 45_processor_control.md rule R334; log entry 15). -/
def State.busLocked (s : State) : Bool := s.pre.lock && s.env.maxMode

/-- Writes of other bus masters, in their order. -/
def State.masterWrites (s : State) (ws : List MasterWrite) : State := ws.foldl (fun t w => t.store w.addr.toNat w.value) s

/-- A gap between two accesses: other masters may write here unless the bus is locked (20_memory.md rules R60, R70 and
R71, 70_reset_and_hazards.md rule R409; log entry 14). -/
def State.gap (s : State) : State :=
  if s.busLocked then s
  else match s.env.waiting with
    | [] => s
    | ws :: rest => (s.setEnv { s.env with waiting := rest }).masterWrites ws

/-- A bus cycle that leaves a trace outside the CPU. Once RESET has gone high in this step there are no more of them
(70_reset_and_hazards.md rule R390; log entry 14). -/
def State.busCycle (s : State) (f : State → State) : State :=
  match s.env.cut with
  | none => f s
  | some 0 => s
  | some (k + 1) => f (s.setEnv { s.env with cut := some k })

/-- What the CPU shows the host. -/
def State.log (s : State) (e : BusEvent) : State := s.setEnv { s.env with busLog := s.env.busLog ++ [e] }

/-- MemRead(a, 1): what memory holds, what the device answers next, or what the floating bus gives
(20_memory.md rules R55 and R61; log entry 4). -/
def State.busByte (s : State) (a : Nat) : Byte :=
  match s.kindAt a with
  | .ram => s.byteAt a
  | .rom => s.byteAt a
  | .absent => Config.freeBus a s.draws
  | .device => s.env.devIn.headD (Config.freeBus a s.draws)

/-- The device has answered a read. -/
def State.deviceRead (s : State) (a : Nat) : State :=
  ((s.setEnv { s.env with devIn := s.env.devIn.tail }).setDraws (s.draws + 1)).log (.memRead a (s.busByte a))

/-- The state MemRead(a, 1) leaves: only a device read has a side effect (20_memory.md rule R61). -/
def State.afterRead (s : State) (a : Nat) : State :=
  match s.kindAt a with
  | .ram => s
  | .rom => s
  | .absent => s.setDraws (s.draws + 1)
  | .device => s.busCycle fun t => t.deviceRead a

/-- MemWrite(a, 1, v) (20_memory.md rules R56 and R61): a write to ROM or to nothing is ignored, one to a device is shown
to the host. -/
def State.writeByte (s : State) (a : Nat) (v : Byte) : State :=
  s.busCycle fun t => if t.kindAt a = .device then t.log (.memWrite a v) else t.store a v

/-- ReadSeg(seg, off, N/8) (20_memory.md rule R57): the high byte of a word comes from the next offset modulo 2^16. -/
def State.readSeg (s : State) (sg off : Word) (w : Width) : BitVec w.bits :=
  match w with
  | .byte => s.busByte (phys sg off)
  | .word => joinBytes ((s.afterRead (phys sg off)).busByte (phys sg (off + 1))) (s.busByte (phys sg off))

/-- The state ReadSeg leaves. No other master comes between the two bytes of a word (20_memory.md rule R60). -/
def State.afterSeg (s : State) (sg off : Word) (w : Width) : State :=
  match w with
  | .byte => (s.afterRead (phys sg off)).gap
  | .word => ((s.afterRead (phys sg off)).afterRead (phys sg (off + 1))).gap

/-- WriteSeg(seg, off, N/8, v) (20_memory.md rule R57), low byte first (rule R60). -/
def State.writeSeg (s : State) (sg off : Word) (w : Width) (v : BitVec w.bits) : State :=
  match w, v with
  | .byte, v => (s.writeByte (phys sg off) v).gap
  | .word, v => ((s.writeByte (phys sg off) (loByte v)).writeByte (phys sg (off + 1)) (hiByte v)).gap

/-- The physical addresses an access of width `w` at seg:off touches (20_memory.md rule R57). -/
def accessBytes (sg off : Word) (w : Width) : List Nat :=
  match w with
  | .byte => [phys sg off]
  | .word => [phys sg off, phys sg (off + 1)]

/-- MemRead(a, 2) at a physical address (20_memory.md rule R55), and the state it leaves. -/
def State.readPhys16 (s : State) (a : Nat) : Word :=
  joinBytes ((s.afterRead a).busByte ((a + 1) % 2 ^ 20)) (s.busByte a)
def State.afterPhys16 (s : State) (a : Nat) : State := ((s.afterRead a).afterRead ((a + 1) % 2 ^ 20)).gap

/-! ## Stack -/

/-- push16(v) (40_data_transfer.md rule R128; the wrap is 20_memory.md rule R74). -/
def State.push16 (s : State) (v : Word) : State :=
  (s.setReg16 .spAh (s.regs.sp - 2)).writeSeg s.segs.ss (s.regs.sp - 2) .word v

/-- The value pop16() returns. -/
def State.top16 (s : State) : Word := s.readSeg s.segs.ss s.regs.sp .word

/-- The state pop16() leaves: the read comes before the increment (40_data_transfer.md rule R128). -/
def State.drop16 (s : State) : State := (s.afterSeg s.segs.ss s.regs.sp .word).setReg16 .spAh (s.regs.sp + 2)

/-! ## Control transfer -/

/-- A taken transfer of control to an offset in the current code segment. It empties the instruction queue, so every
later fetch sees memory as it is (20_memory.md rule R75). -/
def State.jumpNear (s : State) (off : Word) : State := (s.setIp off).setStale []

/-- A taken transfer of control to another CS:IP. -/
def State.jumpFar (s : State) (sg off : Word) : State := (s.setSeg .cs sg).jumpNear off

/-- A taken relative jump with an 8-bit displacement (44_control_transfer.md rule R280). -/
def State.jumpRel8 (s : State) (d : Byte) : State := s.jumpNear (s.ip + d.signExtend 16)

/-- A conditional relative jump (44_control_transfer.md rule R280). -/
def State.jumpIf (s : State) (cond : Bool) (d : Byte) : State := if cond then s.jumpRel8 d else s

/-! ## I/O space -/

/-- The byte the port answers next (20_memory.md rule R63; log entry 12). -/
def State.portByte (s : State) (port : Word) : Byte := s.env.portIn.headD (Config.freePort port s.draws)

/-- The port has answered a read. -/
def State.portRead (s : State) (port : Word) : State :=
  ((s.setEnv { s.env with portIn := s.env.portIn.tail }).setDraws (s.draws + 1)).log (.ioRead port (s.portByte port))

/-- The state one byte read from a port leaves. -/
def State.afterPortRead (s : State) (port : Word) : State := s.busCycle fun t => t.portRead port

/-- IoRead(port, N/8) (20_memory.md rule R63): a word is two byte cycles, `port` first, the low byte. -/
def State.ioRead (s : State) (port : Word) (w : Width) : BitVec w.bits × State :=
  match w with
  | .byte => (s.portByte port, s.afterPortRead port)
  | .word =>
    let t := s.afterPortRead port
    (joinBytes (t.portByte (port + 1)) (s.portByte port), t.afterPortRead (port + 1))

/-- One byte written to a port. -/
def State.portWrite (s : State) (port : Word) (v : Byte) : State := s.busCycle fun t => t.log (.ioWrite port v)

/-- IoWrite(port, N/8, v) (20_memory.md rule R63). -/
def State.ioWrite (s : State) (port : Word) (w : Width) (v : BitVec w.bits) : State :=
  match w, v with
  | .byte, v => s.portWrite port v
  | .word, v => (s.portWrite port (loByte v)).portWrite (port + 1) (hiByte v)

/-! ## Interrupts -/

/-- The three words an interrupt entry pushes, with IF and TF cleared after the first (60_exceptions.md rule R365,
92_eei_decisions.md D26). -/
def State.pushFrame (s : State) (savedIp : Word) : State :=
  let s1 := s.push16 s.flags.image
  let s2 := s1.setFlags s1.flags.mask
  (s2.push16 s2.segs.cs).push16 savedIp

/-- What an interrupt entry does to the hidden state (60_exceptions.md rule R365, last line): the halt ends, the prefix
state is cleared, and no turn of the interrupted instruction is left to run. -/
def State.leaveInstruction (s : State) : State :=
  ((s.setLatches { s.latches with halted := false }).setPre Prefixes.none).setProgress
    { s.progress with mid := false, repeating := none }

/-- The new IP and CS of a type, from the vector table (20_memory.md rule R66), and the state the two reads leave. -/
def State.vectorIp (s : State) (type : Byte) : Word := s.readPhys16 (4 * type.toNat)
def State.vectorCs (s : State) (type : Byte) : Word :=
  (s.afterPhys16 (4 * type.toNat)).readPhys16 (4 * type.toNat + 2)
def State.afterVector (s : State) (type : Byte) : State :=
  (s.afterPhys16 (4 * type.toNat)).afterPhys16 (4 * type.toNat + 2)

/-- interrupt_entry(type) with a given saved IP (60_exceptions.md rule R365): the one way every interrupt is taken. -/
def State.interruptEntry (s : State) (type : Byte) (savedIp : Word) : State :=
  let t := s.pushFrame savedIp
  ((t.afterVector type).leaveInstruction).jumpFar (t.vectorCs type) (t.vectorIp type)

/-- The return from an interrupt: pop IP, CS and FLAGS (44_control_transfer.md rule R308). -/
def State.interruptReturn (s : State) : State :=
  let s1 := s.drop16
  let s2 := s1.drop16
  (s2.drop16.setFlags (Flags.ofImage s2.top16)).jumpFar s1.top16 s.top16

/-- An interrupt that is entered at a boundary. It is no part of the instruction before it, so a LOCK of that instruction
covers none of its cycles (20_memory.md rule R71; log entry 15). -/
def State.enterBetween (s : State) (type : Byte) (savedIp : Word) : State :=
  ((s.setPre Prefixes.none).gap).interruptEntry type savedIp

/-- The type byte the interrupt controller answers next (60_exceptions.md rule R362; log entry 13). -/
def State.ackByte (s : State) : Byte := s.env.ackIn.headD (Config.freeAck s.draws)

/-- The interrupt controller has answered. -/
def State.acknowledge (s : State) : State :=
  ((s.setEnv { s.env with ackIn := s.env.ackIn.tail }).setDraws (s.draws + 1)).log (.intAck s.ackByte)

/-- The state IntAck() leaves (60_exceptions.md rule R362). -/
def State.afterAck (s : State) : State := s.busCycle State.acknowledge

/-- NMI is taken: the latch is cleared and type 2 is entered (60_exceptions.md rule R359). -/
def State.takeNmi (s : State) (savedIp : Word) : State :=
  (s.setLatches { s.latches with nmiPending := false }).enterBetween 2 savedIp

/-- INTR is taken: acknowledge, then entry of the type fetched (60_exceptions.md rule R362). -/
def State.takeIntr (s : State) (savedIp : Word) : State := s.afterAck.enterBetween s.ackByte savedIp

/-- The one external interrupt entered at a boundary, if any: NMI before INTR, INTR only if IF = 1
(60_exceptions.md rules R364 and R366). -/
def State.takeExternal (s : State) (savedIp : Word) : State :=
  if s.latches.nmiPending then s.takeNmi savedIp
  else if s.env.intr && s.flags.iF then s.takeIntr savedIp
  else s

end Sys2Proof.Machine
end

