-- ==== Sys2Proof/Machine/Operands.lean ====
section
/-! DEFINITION. Every operand form: effective addresses and their segments (30_encoding.md rules R85 to R90), the r/m
operand, immediates (rules R91 and R92) and the elements of the string instructions (43_string.md rule R243). -/

namespace Sys2Proof.Machine

/-- DISP (30_encoding.md rules R85 and R89). -/
def dispValue (d : Disp) : Word :=
  match d with
  | .none => 0
  | .d8 v => v.signExtend 16
  | .d16 v => v

/-- The register part of an effective address (30_encoding.md rule R88). -/
def baseValue (r : Regs) (b : Base) : Word :=
  match b with
  | .bxSi => r.bx + r.si
  | .bxDi => r.bx + r.di
  | .bpSi => r.bp + r.si
  | .bpDi => r.bp + r.di
  | .si => r.si
  | .di => r.di
  | .bp => r.bp
  | .bx => r.bx

/-- EA (30_encoding.md rule R88), a 16-bit sum. -/
def effectiveAddress (r : Regs) (m : MemRef) : Word :=
  match m with
  | .direct a => a
  | .based b d => baseValue r b + dispValue d

/-- The default segment of a memory operand (30_encoding.md rule R90). -/
def defaultSegment (m : MemRef) : SReg :=
  match m with
  | .direct _ => .ds
  | .based .bpSi _ => .ss
  | .based .bpDi _ => .ss
  | .based .bp _ => .ss
  | .based .bxSi _ => .ds
  | .based .bxDi _ => .ds
  | .based .si _ => .ds
  | .based .di _ => .ds
  | .based .bx _ => .ds

/-- The value of the segment register an overridable reference uses (20_memory.md rules R52 and R53). -/
def State.segFor (s : State) (dflt : SReg) : Word := s.segs.get (s.pre.segOvr.getD dflt)

/-- The segment and the offset of a memory operand. -/
def State.memSeg (s : State) (m : MemRef) : Word := s.segFor (defaultSegment m)
def State.memOff (s : State) (m : MemRef) : Word := effectiveAddress s.regs m

/-- E as a source. -/
def State.readRm (s : State) (w : Width) (rm : Rm) : BitVec w.bits :=
  match rm with
  | .reg r => s.reg w r
  | .mem m => s.readSeg (s.memSeg m) (s.memOff m) w

/-- The state the read of E leaves. -/
def State.afterRm (s : State) (w : Width) (rm : Rm) : State :=
  match rm with
  | .reg _ => s
  | .mem m => s.afterSeg (s.memSeg m) (s.memOff m) w

/-- E as a destination. -/
def State.writeRm (s : State) (w : Width) (rm : Rm) (v : BitVec w.bits) : State :=
  match rm with
  | .reg r => s.setReg w r v
  | .mem m => s.writeSeg (s.memSeg m) (s.memOff m) w v

/-- The bytes of memory a store to the operand reaches: none for a register. -/
def State.rmBytes (s : State) (w : Width) (rm : Rm) : List Nat :=
  match rm with
  | .reg _ => []
  | .mem m => accessBytes (s.memSeg m) (s.memOff m) w

/-- The far pointer at a memory operand: the offset word, then the segment word at EA + 2
(20_memory.md rule R59, 40_data_transfer.md rule R145), and the state the two reads leave. -/
def State.farOffset (s : State) (m : MemRef) : Word := s.readSeg (s.memSeg m) (s.memOff m) .word
def State.farSegment (s : State) (m : MemRef) : Word :=
  (s.afterSeg (s.memSeg m) (s.memOff m) .word).readSeg (s.memSeg m) (s.memOff m + 2) .word
def State.afterFar (s : State) (m : MemRef) : State :=
  (s.afterSeg (s.memSeg m) (s.memOff m) .word).afterSeg (s.memSeg m) (s.memOff m + 2) .word

/-- The width of an instruction with immediate data of the w forms. -/
abbrev immWidth (imm : Imm) : Width :=
  match imm with
  | .byte _ => .byte
  | .word _ => .word

/-- The immediate value (30_encoding.md rule R91). -/
def immValue (imm : Imm) : BitVec (immWidth imm).bits :=
  match imm with
  | .byte v => v
  | .word v => v

/-- The width of an s:w form (30_encoding.md rule R92). -/
abbrev arithWidth (imm : ArithImm) : Width :=
  match imm with
  | .op80 _ => .byte
  | .op81 _ => .word
  | .op82 _ => .byte
  | .op83 _ => .word

/-- The immediate value of an s:w form (30_encoding.md rule R92): 83h sign-extends its byte. -/
def arithValue (imm : ArithImm) : BitVec (arithWidth imm).bits :=
  match imm with
  | .op80 v => v
  | .op81 v => v
  | .op82 v => v
  | .op83 v => v.signExtend 16

/-- How far an index register moves (43_string.md rule R243). -/
def State.stringDelta (s : State) (w : Width) : Word :=
  match w, s.flags.df with
  | .byte, false => 1
  | .byte, true => -1
  | .word, false => 2
  | .word, true => -2

/-- "step SI". -/
def State.stepSi (s : State) (w : Width) : State := s.setReg16 .siDh (s.regs.si + s.stringDelta w)

/-- "step DI". -/
def State.stepDi (s : State) (w : Width) : State := s.setReg16 .diBh (s.regs.di + s.stringDelta w)

/-- The source element at DS:SI, whose segment may be overridden (43_string.md rule R243), and the state the read
leaves. -/
def State.sourceElement (s : State) (w : Width) : BitVec w.bits := s.readSeg (s.segFor .ds) s.regs.si w
def State.afterSource (s : State) (w : Width) : State := s.afterSeg (s.segFor .ds) s.regs.si w

/-- The element at ES:DI, whose segment may not be overridden (43_string.md rule R243), and the state the read leaves. -/
def State.destElement (s : State) (w : Width) : BitVec w.bits := s.readSeg s.segs.es s.regs.di w
def State.afterDest (s : State) (w : Width) : State := s.afterSeg s.segs.es s.regs.di w

/-- The count of a shift or rotate: 1, or the whole of CL, 0 to 255 (42_logic_shift_rotate.md rule R213). -/
def State.shiftCount (s : State) (v : Count) : Nat :=
  match v with
  | .one => 1
  | .cl => (s.regs.get8 .cxCl).toNat

end Sys2Proof.Machine
end

