-- ==== Sys2Proof/Machine/Control.lean ====
section
/-! DEFINITION. The control transfer instructions (44_control_transfer.md). IP already holds the offset of the next
instruction (10_state.md rule R28). -/

namespace Sys2Proof.Machine

/-! ## Shared operations -/

/-- The pushes of a far CALL: CS, then IP (44_control_transfer.md rule R262). -/
def State.pushFarReturn (s : State) : State := (s.push16 s.segs.cs).push16 s.ip

/-- SP <- (SP + n) mod 2^16 (44_control_transfer.md rule R271). -/
def State.releaseStack (s : State) (n : Word) : State := s.setReg16 .spAh (s.regs.sp + n)

/-- A far return: pop IP, then CS (44_control_transfer.md rule R272). -/
def State.farReturn (s : State) : State := s.drop16.drop16.jumpFar s.drop16.top16 s.top16

/-- CX <- (CX - 1) mod 2^16, no flag changed (44_control_transfer.md rule R299). -/
def State.loopCount (s : State) : State := s.setReg16 .cxCl (s.regs.cx - 1)

/-! ## CALL -/

/-- 44_control_transfer.md rule R260. -/
def execCallNear (disp : Word) (s : State) : Answer := .next ((s.push16 s.ip).jumpNear (s.ip + disp))

/-- 44_control_transfer.md rule R261: the operand is read before the push. -/
def execCallRm (rm : Rm) (s : State) : Answer :=
  .next (((s.afterRm .word rm).push16 s.ip).jumpNear (s.readRm .word rm))

/-- 44_control_transfer.md rule R262. -/
def execCallFar (off sgm : Word) (s : State) : Answer := .next (s.pushFarReturn.jumpFar sgm off)

/-- 44_control_transfer.md rule R263: both words are read before the pushes. -/
def execCallFarMem (m : MemRef) (s : State) : Answer :=
  .next ((s.afterFar m).pushFarReturn.jumpFar (s.farSegment m) (s.farOffset m))

/-! ## JMP -/

/-- 44_control_transfer.md rule R265. -/
def execJmpNear (disp : Word) (s : State) : Answer := .next (s.jumpNear (s.ip + disp))

/-- 44_control_transfer.md rule R266. -/
def execJmpShort (disp : Byte) (s : State) : Answer := .next (s.jumpRel8 disp)

/-- 44_control_transfer.md rule R267. -/
def execJmpRm (rm : Rm) (s : State) : Answer := .next ((s.afterRm .word rm).jumpNear (s.readRm .word rm))

/-- 44_control_transfer.md rule R268. -/
def execJmpFar (off sgm : Word) (s : State) : Answer := .next (s.jumpFar sgm off)

/-- 44_control_transfer.md rule R269. -/
def execJmpFarMem (m : MemRef) (s : State) : Answer :=
  .next ((s.afterFar m).jumpFar (s.farSegment m) (s.farOffset m))

/-! ## RET -/

/-- 44_control_transfer.md rule R270. -/
def execRetNear (s : State) : Answer := .next (s.drop16.jumpNear s.top16)

/-- 44_control_transfer.md rule R271. -/
def execRetNearImm (n : Word) (s : State) : Answer := .next ((s.drop16.jumpNear s.top16).releaseStack n)

/-- 44_control_transfer.md rule R272. -/
def execRetFar (s : State) : Answer := .next s.farReturn

/-- 44_control_transfer.md rule R273. -/
def execRetFarImm (n : Word) (s : State) : Answer := .next (s.farReturn.releaseStack n)

/-! ## Conditional jumps -/

/-- 44_control_transfer.md rule R281. -/
def execJo (disp : Byte) (s : State) : Answer := .next (s.jumpIf s.flags.oF disp)

/-- 44_control_transfer.md rule R282. -/
def execJno (disp : Byte) (s : State) : Answer := .next (s.jumpIf (!s.flags.oF) disp)

/-- 44_control_transfer.md rule R283. -/
def execJb (disp : Byte) (s : State) : Answer := .next (s.jumpIf s.flags.cf disp)

/-- 44_control_transfer.md rule R284. -/
def execJnb (disp : Byte) (s : State) : Answer := .next (s.jumpIf (!s.flags.cf) disp)

/-- 44_control_transfer.md rule R285. -/
def execJe (disp : Byte) (s : State) : Answer := .next (s.jumpIf s.flags.zf disp)

/-- 44_control_transfer.md rule R286. -/
def execJne (disp : Byte) (s : State) : Answer := .next (s.jumpIf (!s.flags.zf) disp)

/-- 44_control_transfer.md rule R287. -/
def execJbe (disp : Byte) (s : State) : Answer := .next (s.jumpIf (s.flags.cf || s.flags.zf) disp)

/-- 44_control_transfer.md rule R288. -/
def execJnbe (disp : Byte) (s : State) : Answer := .next (s.jumpIf (!s.flags.cf && !s.flags.zf) disp)

/-- 44_control_transfer.md rule R289. -/
def execJs (disp : Byte) (s : State) : Answer := .next (s.jumpIf s.flags.sf disp)

/-- 44_control_transfer.md rule R290. -/
def execJns (disp : Byte) (s : State) : Answer := .next (s.jumpIf (!s.flags.sf) disp)

/-- 44_control_transfer.md rule R291. -/
def execJp (disp : Byte) (s : State) : Answer := .next (s.jumpIf s.flags.pf disp)

/-- 44_control_transfer.md rule R292. -/
def execJnp (disp : Byte) (s : State) : Answer := .next (s.jumpIf (!s.flags.pf) disp)

/-- 44_control_transfer.md rule R293. -/
def execJl (disp : Byte) (s : State) : Answer := .next (s.jumpIf (s.flags.sf != s.flags.oF) disp)

/-- 44_control_transfer.md rule R294. -/
def execJnl (disp : Byte) (s : State) : Answer := .next (s.jumpIf (s.flags.sf == s.flags.oF) disp)

/-- 44_control_transfer.md rule R295. -/
def execJle (disp : Byte) (s : State) : Answer := .next (s.jumpIf (s.flags.zf || s.flags.sf != s.flags.oF) disp)

/-- 44_control_transfer.md rule R296. -/
def execJnle (disp : Byte) (s : State) : Answer := .next (s.jumpIf (!s.flags.zf && s.flags.sf == s.flags.oF) disp)

/-! ## LOOP, LOOPZ, LOOPNZ, JCXZ -/

/-- 44_control_transfer.md rule R299. -/
def execLoop (disp : Byte) (s : State) : Answer := .next (s.loopCount.jumpIf (s.loopCount.regs.cx != 0) disp)

/-- 44_control_transfer.md rule R300. -/
def execLoopz (disp : Byte) (s : State) : Answer :=
  .next (s.loopCount.jumpIf (s.loopCount.regs.cx != 0 && s.flags.zf) disp)

/-- 44_control_transfer.md rule R301. -/
def execLoopnz (disp : Byte) (s : State) : Answer :=
  .next (s.loopCount.jumpIf (s.loopCount.regs.cx != 0 && !s.flags.zf) disp)

/-- 44_control_transfer.md rule R302. -/
def execJcxz (disp : Byte) (s : State) : Answer := .next (s.jumpIf (s.regs.cx == 0) disp)

/-! ## INT, INTO, IRET -/

/-- 44_control_transfer.md rule R303. -/
def execInt (type : Byte) (s : State) : Answer := .next (s.interruptEntry type s.ip)

/-- 44_control_transfer.md rule R304. -/
def execInt3 (s : State) : Answer := .next (s.interruptEntry 3 s.ip)

/-- 44_control_transfer.md rule R305. -/
def execInto (s : State) : Answer := .next (if s.flags.oF then s.interruptEntry 4 s.ip else s)

/-- 44_control_transfer.md rule R308. -/
def execIret (s : State) : Answer := .next s.interruptReturn

end Sys2Proof.Machine
end

