-- ==== Sys2Proof/Machine/DataTransfer.lean ====
section
/-! DEFINITION. The data transfer instructions (40_data_transfer.md). No flag changes but in SAHF and POPF. -/

namespace Sys2Proof.Machine

/-! ## Shared operations -/

/-- The destination of a two-operand form: r/m when d = 0, the register when d = 1 (30_encoding.md rule R83). -/
def destOperand (d : Dir) (rm : Rm) (reg : Reg) : Rm :=
  match d with
  | .fromReg => rm
  | .toReg => .reg reg

/-- The source of a two-operand form (30_encoding.md rule R83). -/
def sourceRm (d : Dir) (rm : Rm) (reg : Reg) : Rm :=
  match d with
  | .fromReg => .reg reg
  | .toReg => rm

/-- The value of the source of a two-operand form. -/
def State.sourceOperand (s : State) (w : Width) (d : Dir) (rm : Rm) (reg : Reg) : BitVec w.bits :=
  s.readRm w (sourceRm d rm reg)

/-- PUSH of a 16-bit register: PUSH SP stores the decremented SP (40_data_transfer.md rule R133). -/
def State.pushReg (s : State) (r : Reg) : State :=
  match r with
  | .spAh => s.push16 (s.regs.sp - 2)
  | .axAl => s.push16 s.regs.ax
  | .cxCl => s.push16 s.regs.cx
  | .dxDl => s.push16 s.regs.dx
  | .bxBl => s.push16 s.regs.bx
  | .bpCh => s.push16 s.regs.bp
  | .siDh => s.push16 s.regs.si
  | .diBh => s.push16 s.regs.di

/-- SS loaded: interrupts are held off at the boundary that follows (10_state.md rule R39), and so is the single-step
trap (60_exceptions.md rule R361). -/
def State.loadSs (s : State) (v : Word) : State :=
  ((s.setSeg .ss v).setLatches { s.latches with inhibit := true }).setProgress { s.progress with ssLoad := true }

/-- The two registers of an exchange (40_data_transfer.md rule R138). -/
def State.exchangeAx (s : State) (r : Reg) : State :=
  (s.setReg16 .axAl (s.reg16 r)).setReg16 r s.regs.ax

/-- The port number of the fixed-port forms, zero-extended (40_data_transfer.md rule R139). -/
def fixedPort (p : Byte) : Word := p.setWidth 16

/-- IN: the accumulator from a port (40_data_transfer.md rules R139 and R140). -/
def State.inPort (s : State) (w : Width) (port : Word) : State := (s.ioRead port w).2.setAcc w (s.ioRead port w).1

/-! ## MOV -/

/-- 40_data_transfer.md rule R120. -/
def execMovRmReg (w : Width) (d : Dir) (rm : Rm) (reg : Reg) (s : State) : Answer :=
  .next ((s.afterRm w (sourceRm d rm reg)).writeRm w (destOperand d rm reg) (s.sourceOperand w d rm reg))

/-- 40_data_transfer.md rule R121. -/
def execMovRmImm (imm : Imm) (rm : Rm) (s : State) : Answer := .next (s.writeRm (immWidth imm) rm (immValue imm))

/-- 40_data_transfer.md rule R132. -/
def execMovRegImm (imm : Imm) (reg : Reg) (s : State) : Answer := .next (s.setReg (immWidth imm) reg (immValue imm))

/-- 40_data_transfer.md rule R122. -/
def execMovAccMem (w : Width) (addr : Word) (s : State) : Answer :=
  .next ((s.afterSeg (s.segFor .ds) addr w).setAcc w (s.readSeg (s.segFor .ds) addr w))

/-- 40_data_transfer.md rule R123. -/
def execMovMemAcc (w : Width) (addr : Word) (s : State) : Answer :=
  .next (s.writeSeg (s.segFor .ds) addr w (s.acc w))

/-- 40_data_transfer.md rule R124, ES. -/
def execMovEsRm (rm : Rm) (s : State) : Answer := .next ((s.afterRm .word rm).setSeg .es (s.readRm .word rm))

/-- 40_data_transfer.md rule R124, SS: opens the inhibit window. -/
def execMovSsRm (rm : Rm) (s : State) : Answer := .next ((s.afterRm .word rm).loadSs (s.readRm .word rm))

/-- 40_data_transfer.md rule R124, DS. -/
def execMovDsRm (rm : Rm) (s : State) : Answer := .next ((s.afterRm .word rm).setSeg .ds (s.readRm .word rm))

/-- 40_data_transfer.md rule R125. -/
def execMovRmSreg (rm : Rm) (sr : SReg) (s : State) : Answer := .next (s.writeRm .word rm (s.segs.get sr))

/-! ## PUSH and POP -/

/-- 40_data_transfer.md rule R126: a memory operand is read before SP changes. -/
def execPushRm (rm : Rm) (s : State) : Answer :=
  match rm with
  | .reg r => .next (s.pushReg r)
  | .mem m => .next ((s.afterRm .word (.mem m)).push16 (s.readRm .word (.mem m)))

/-- 40_data_transfer.md rule R133. -/
def execPushR16 (reg : Reg) (s : State) : Answer := .next (s.pushReg reg)

/-- 40_data_transfer.md rule R127. -/
def execPushSreg (sr : SReg) (s : State) : Answer := .next (s.push16 (s.segs.get sr))

/-- 40_data_transfer.md rule R129. -/
def execPopRm (rm : Rm) (s : State) : Answer := .next (s.drop16.writeRm .word rm s.top16)

/-- 40_data_transfer.md rule R130. -/
def execPopR16 (reg : Reg) (s : State) : Answer := .next (s.drop16.setReg16 reg s.top16)

/-- 40_data_transfer.md rule R131, ES. -/
def execPopEs (s : State) : Answer := .next (s.drop16.setSeg .es s.top16)

/-- 40_data_transfer.md rule R131, SS: opens the inhibit window. -/
def execPopSs (s : State) : Answer := .next (s.drop16.loadSs s.top16)

/-- 40_data_transfer.md rule R131, DS. -/
def execPopDs (s : State) : Answer := .next (s.drop16.setSeg .ds s.top16)

/-! ## XCHG -/

/-- 40_data_transfer.md rule R137: a read and then a write of E, locked only by a LOCK prefix (20_memory.md rule R71). -/
def execXchgRmReg (w : Width) (rm : Rm) (reg : Reg) (s : State) : Answer :=
  .next (((s.afterRm w rm).writeRm w rm (s.reg w reg)).setReg w reg (s.readRm w rm))

/-- 40_data_transfer.md rule R138, 91h. -/
def execXchgAxCx (s : State) : Answer := .next (s.exchangeAx .cxCl)

/-- 40_data_transfer.md rule R138, 92h and 93h. -/
def execXchgAxDxBx (reg : Reg) (s : State) : Answer := .next (s.exchangeAx reg)

/-- 40_data_transfer.md rule R138, 94h to 97h. -/
def execXchgAxIndex (reg : Reg) (s : State) : Answer := .next (s.exchangeAx reg)

/-- 90h, XCHG AX,AX (40_data_transfer.md rule R138, 45_processor_control.md rule R337): nothing changes. -/
def execNop (s : State) : Answer := .next s

/-! ## IN and OUT -/

/-- 40_data_transfer.md rule R139. -/
def execInImm (w : Width) (port : Byte) (s : State) : Answer := .next (s.inPort w (fixedPort port))

/-- 40_data_transfer.md rule R140. -/
def execInDx (w : Width) (s : State) : Answer := .next (s.inPort w s.regs.dx)

/-- 40_data_transfer.md rule R141. -/
def execOutImm (w : Width) (port : Byte) (s : State) : Answer := .next (s.ioWrite (fixedPort port) w (s.acc w))

/-- 40_data_transfer.md rule R142. -/
def execOutDx (w : Width) (s : State) : Answer := .next (s.ioWrite s.regs.dx w (s.acc w))

/-! ## XLAT, LEA, LDS, LES -/

/-- 40_data_transfer.md rule R143. -/
def execXlat (s : State) : Answer :=
  let off := s.regs.bx + s.al.setWidth 16
  .next ((s.afterSeg (s.segFor .ds) off .byte).setAcc .byte (s.readSeg (s.segFor .ds) off .byte))

/-- 40_data_transfer.md rule R144: no memory access, and no segment takes part. -/
def execLea (reg : Reg) (m : MemRef) (s : State) : Answer := .next (s.setReg16 reg (s.memOff m))

/-- 40_data_transfer.md rule R145: both words are read before DS is replaced. -/
def execLds (reg : Reg) (m : MemRef) (s : State) : Answer :=
  .next (((s.afterFar m).setReg16 reg (s.farOffset m)).setSeg .ds (s.farSegment m))

/-- 40_data_transfer.md rule R146. -/
def execLes (reg : Reg) (m : MemRef) (s : State) : Answer :=
  .next (((s.afterFar m).setReg16 reg (s.farOffset m)).setSeg .es (s.farSegment m))

/-! ## Flag transfers -/

/-- 40_data_transfer.md rule R148. -/
def execLahf (s : State) : Answer := .next (s.setAhAl (loByte s.flags.image) s.al)

/-- 40_data_transfer.md rule R149. -/
def execSahf (s : State) : Answer := .next (s.setFlags (s.flags.loadLow s.ah))

/-- 40_data_transfer.md rule R150. -/
def execPushf (s : State) : Answer := .next (s.push16 s.flags.image)

/-- 40_data_transfer.md rule R151. -/
def execPopf (s : State) : Answer := .next (s.drop16.setFlags (Flags.ofImage s.top16))

end Sys2Proof.Machine
end

