-- ==== Sys2Proof/Machine/Arithmetic.lean ====
section
/-! DEFINITION. The arithmetic instructions (41_arithmetic.md). -/

namespace Sys2Proof.Machine

/-! ## Shared operations -/

/-- dst <- add_N(dst, b, c) (41_arithmetic.md rule R160), where `rm` is the operand that is read over the bus. -/
def State.addTo (s : State) (w : Width) (rm dst : Rm) (b : BitVec w.bits) (c : Bool) : State :=
  ((s.afterRm w rm).writeRm w dst (addResult (s.readRm w dst) b c)).setFlags (s.flags.add (s.readRm w dst) b c)

/-- dst <- sub_N(dst, b, c) (41_arithmetic.md rule R160), where `rm` is the operand that is read over the bus. -/
def State.subFrom (s : State) (w : Width) (rm dst : Rm) (b : BitVec w.bits) (c : Bool) : State :=
  ((s.afterRm w rm).writeRm w dst (subResult (s.readRm w dst) b c)).setFlags (s.flags.sub (s.readRm w dst) b c)

/-- sub_N(a, b, 0) with the result discarded (41_arithmetic.md rule R181). -/
def State.compare (s : State) {n : Nat} (a b : BitVec n) : State := s.setFlags (s.flags.sub a b false)

/-- E <- add_N(E, 1, 0) with CF kept (41_arithmetic.md rule R167). -/
def State.increment (s : State) (w : Width) (dst : Rm) : State :=
  ((s.afterRm w dst).writeRm w dst (addResult (s.readRm w dst) 1#w.bits false)).setFlags
    (s.flags.keepCarry (s.flags.add (s.readRm w dst) 1#w.bits false))

/-- E <- sub_N(E, 1, 0) with CF kept (41_arithmetic.md rule R177). -/
def State.decrement (s : State) (w : Width) (dst : Rm) : State :=
  ((s.afterRm w dst).writeRm w dst (subResult (s.readRm w dst) 1#w.bits false)).setFlags
    (s.flags.keepCarry (s.flags.sub (s.readRm w dst) 1#w.bits false))

/-- The low digit of AL needs an adjustment: it is above 9, or AF is set (41_arithmetic.md rule R169). -/
def State.adjustLow (s : State) : Bool := decide (9 < (s.al &&& 0x0F).toNat) || s.flags.af

/-- The high digit of AL needs an adjustment: AL is above 99h, or CF is set (41_arithmetic.md rule R170). -/
def State.adjustHigh (s : State) : Bool := decide (0x99 < s.al.toNat) || s.flags.cf

/-- The product of MUL and IMUL: AX, or DX:AX (41_arithmetic.md rule R186). -/
def State.setProduct (s : State) (w : Width) (p : BitVec 32) : State :=
  match w with
  | .byte => s.setReg16 .axAl (p.extractLsb' 0 16)
  | .word => (s.setReg16 .axAl (p.extractLsb' 0 16)).setReg16 .dxDl (p.extractLsb' 16 16)

/-- The high half of an unsigned product is not zero (41_arithmetic.md rule R186). -/
def productCarry (w : Width) (p : BitVec 32) : Bool :=
  match w with
  | .byte => p.extractLsb' 8 8 != 0
  | .word => p.extractLsb' 16 16 != 0

/-- A signed product is not the sign extension of its low half (41_arithmetic.md rule R187). -/
def productOverflow (w : Width) (p : BitVec 32) : Bool :=
  match w with
  | .byte => p.extractLsb' 0 16 != (p.extractLsb' 0 8).signExtend 16
  | .word => p != (p.extractLsb' 0 16).signExtend 32

/-- The dividend of DIV and IDIV: AX, or DX:AX (41_arithmetic.md rule R191). -/
def State.dividend (s : State) (w : Width) : BitVec (w.bits + w.bits) :=
  match w with
  | .byte => s.regs.ax
  | .word => s.regs.dx ++ s.regs.ax

/-- Quotient and remainder stored: AL and AH, or AX and DX (41_arithmetic.md rule R191). -/
def State.setQuotient (s : State) (w : Width) (q r : BitVec w.bits) : State :=
  match w, q, r with
  | .byte, q, r => s.setAhAl r q
  | .word, q, r => (s.setReg16 .axAl q).setReg16 .dxDl r

/-- The divide error, type 0 (60_exceptions.md rule R352): AX and DX keep their values, the six status flags are
undefined in the pushed image and afterwards, and the saved IP is that of the next instruction. -/
def State.divideError (s : State) : State := (s.undefine allStatus).interruptEntry 0 s.ip

/-- Whether IDIV stores this quotient of width `w` (41_arithmetic.md rule R192). -/
def signedQuotientFits (w : Width) (q : Int) : Bool :=
  decide (q ≤ 2 ^ (w.bits - 1) - 1) && (decide (-2 ^ (w.bits - 1) < q)
    || (decide (q = -2 ^ (w.bits - 1)) && Config.idivAcceptsMin))

/-! ## Addition -/

/-- 41_arithmetic.md rule R161. -/
def execAddRmReg (w : Width) (d : Dir) (rm : Rm) (reg : Reg) (s : State) : Answer :=
  .next (s.addTo w rm (destOperand d rm reg) (s.sourceOperand w d rm reg) false)

/-- 41_arithmetic.md rule R162. -/
def execAddRmImm (imm : ArithImm) (rm : Rm) (s : State) : Answer :=
  .next (s.addTo (arithWidth imm) rm rm (arithValue imm) false)

/-- 41_arithmetic.md rule R163. -/
def execAddAccImm (imm : Imm) (s : State) : Answer :=
  .next (s.addTo (immWidth imm) (.reg .axAl) (.reg .axAl) (immValue imm) false)

/-- 41_arithmetic.md rule R164. -/
def execAdcRmReg (w : Width) (d : Dir) (rm : Rm) (reg : Reg) (s : State) : Answer :=
  .next (s.addTo w rm (destOperand d rm reg) (s.sourceOperand w d rm reg) s.flags.cf)

/-- 41_arithmetic.md rule R165. -/
def execAdcRmImm (imm : ArithImm) (rm : Rm) (s : State) : Answer :=
  .next (s.addTo (arithWidth imm) rm rm (arithValue imm) s.flags.cf)

/-- 41_arithmetic.md rule R166. -/
def execAdcAccImm (imm : Imm) (s : State) : Answer :=
  .next (s.addTo (immWidth imm) (.reg .axAl) (.reg .axAl) (immValue imm) s.flags.cf)

/-- 41_arithmetic.md rule R167. -/
def execIncRm (w : Width) (rm : Rm) (s : State) : Answer := .next (s.increment w rm)

/-- 41_arithmetic.md rule R168. -/
def execIncR16 (reg : Reg) (s : State) : Answer := .next (s.increment .word (.reg reg))

/-- 41_arithmetic.md rule R169. -/
def execAaa (s : State) : Answer :=
  .next (((s.setAhAl (if s.adjustLow then s.ah + 1 else s.ah)
    ((if s.adjustLow then s.al + 6 else s.al) &&& 0x0F)).setFlags
    (s.flags.setAdjust s.adjustLow s.adjustLow)).undefine [.oF, .sf, .zf, .pf])

/-- The result of DAA (41_arithmetic.md rule R170). -/
def State.daaResult (s : State) : Byte :=
  s.al + (if s.adjustLow then 0x06 else 0) + (if s.adjustHigh then 0x60 else 0)

/-- 41_arithmetic.md rule R170. -/
def execDaa (s : State) : Answer :=
  .next (((s.setAcc .byte s.daaResult).setFlags
    ((s.flags.szp s.daaResult).setAdjust s.adjustLow s.adjustHigh)).undefine [.oF])

/-! ## Subtraction -/

/-- 41_arithmetic.md rule R171. -/
def execSubRmReg (w : Width) (d : Dir) (rm : Rm) (reg : Reg) (s : State) : Answer :=
  .next (s.subFrom w rm (destOperand d rm reg) (s.sourceOperand w d rm reg) false)

/-- 41_arithmetic.md rule R172. -/
def execSubRmImm (imm : ArithImm) (rm : Rm) (s : State) : Answer :=
  .next (s.subFrom (arithWidth imm) rm rm (arithValue imm) false)

/-- 41_arithmetic.md rule R173. -/
def execSubAccImm (imm : Imm) (s : State) : Answer :=
  .next (s.subFrom (immWidth imm) (.reg .axAl) (.reg .axAl) (immValue imm) false)

/-- 41_arithmetic.md rule R174. -/
def execSbbRmReg (w : Width) (d : Dir) (rm : Rm) (reg : Reg) (s : State) : Answer :=
  .next (s.subFrom w rm (destOperand d rm reg) (s.sourceOperand w d rm reg) s.flags.cf)

/-- 41_arithmetic.md rule R175. -/
def execSbbRmImm (imm : ArithImm) (rm : Rm) (s : State) : Answer :=
  .next (s.subFrom (arithWidth imm) rm rm (arithValue imm) s.flags.cf)

/-- 41_arithmetic.md rule R176. -/
def execSbbAccImm (imm : Imm) (s : State) : Answer :=
  .next (s.subFrom (immWidth imm) (.reg .axAl) (.reg .axAl) (immValue imm) s.flags.cf)

/-- 41_arithmetic.md rule R177. -/
def execDecRm (w : Width) (rm : Rm) (s : State) : Answer := .next (s.decrement w rm)

/-- 41_arithmetic.md rule R178. -/
def execDecR16 (reg : Reg) (s : State) : Answer := .next (s.decrement .word (.reg reg))

/-- 41_arithmetic.md rule R179: E <- sub_N(0, E, 0). -/
def execNeg (w : Width) (rm : Rm) (s : State) : Answer :=
  .next (((s.afterRm w rm).writeRm w rm (subResult 0#w.bits (s.readRm w rm) false)).setFlags
    (s.flags.sub 0#w.bits (s.readRm w rm) false))

/-- 41_arithmetic.md rule R181: the destination operand minus the source operand. -/
def execCmpRmReg (w : Width) (d : Dir) (rm : Rm) (reg : Reg) (s : State) : Answer :=
  .next ((s.afterRm w rm).compare (s.readRm w (destOperand d rm reg)) (s.sourceOperand w d rm reg))

/-- 41_arithmetic.md rule R182. -/
def execCmpRmImm (imm : ArithImm) (rm : Rm) (s : State) : Answer :=
  .next ((s.afterRm (arithWidth imm) rm).compare (s.readRm (arithWidth imm) rm) (arithValue imm))

/-- 41_arithmetic.md rule R183. -/
def execCmpAccImm (imm : Imm) (s : State) : Answer := .next (s.compare (s.acc (immWidth imm)) (immValue imm))

/-- 41_arithmetic.md rule R184. -/
def execAas (s : State) : Answer :=
  .next (((s.setAhAl (if s.adjustLow then s.ah - 1 else s.ah)
    ((if s.adjustLow then s.al - 6 else s.al) &&& 0x0F)).setFlags
    (s.flags.setAdjust s.adjustLow s.adjustLow)).undefine [.oF, .sf, .zf, .pf])

/-- The result of DAS (41_arithmetic.md rule R185). -/
def State.dasResult (s : State) : Byte :=
  s.al - (if s.adjustLow then 0x06 else 0) - (if s.adjustHigh then 0x60 else 0)

/-- 41_arithmetic.md rule R185. -/
def execDas (s : State) : Answer :=
  .next (((s.setAcc .byte s.dasResult).setFlags
    ((s.flags.szp s.dasResult).setAdjust s.adjustLow s.adjustHigh)).undefine [.oF])

/-! ## Multiplication -/

/-- The product of MUL (41_arithmetic.md rule R186). -/
def State.mulProduct (s : State) (w : Width) (rm : Rm) : BitVec 32 :=
  BitVec.ofNat 32 ((s.acc w).toNat * (s.readRm w rm).toNat)

/-- 41_arithmetic.md rule R186. -/
def execMul (w : Width) (rm : Rm) (s : State) : Answer :=
  .next ((((s.afterRm w rm).setProduct w (s.mulProduct w rm)).setFlags
    (s.flags.setCarryOverflow (productCarry w (s.mulProduct w rm)))).undefine [.sf, .zf, .af, .pf])

/-- The product of IMUL (41_arithmetic.md rule R187). -/
def State.imulProduct (s : State) (w : Width) (rm : Rm) : BitVec 32 :=
  BitVec.ofInt 32 ((s.acc w).toInt * (s.readRm w rm).toInt)

/-- 41_arithmetic.md rule R187. -/
def execImul (w : Width) (rm : Rm) (s : State) : Answer :=
  .next ((((s.afterRm w rm).setProduct w (s.imulProduct w rm)).setFlags
    (s.flags.setCarryOverflow (productOverflow w (s.imulProduct w rm)))).undefine [.sf, .zf, .af, .pf])

/-- 41_arithmetic.md rule R190. -/
def execAam (s : State) : Answer :=
  .next (((s.setAhAl (BitVec.ofNat 8 (s.al.toNat / 10)) (BitVec.ofNat 8 (s.al.toNat % 10))).setFlags
    (s.flags.szp (BitVec.ofNat 8 (s.al.toNat % 10)))).undefine [.oF, .af, .cf])

/-! ## Division -/

/-- The quotient and the remainder of DIV (41_arithmetic.md rule R191). -/
def State.divQuotient (s : State) (w : Width) (rm : Rm) : Nat := (s.dividend w).toNat / (s.readRm w rm).toNat
def State.divRemainder (s : State) (w : Width) (rm : Rm) : Nat := (s.dividend w).toNat % (s.readRm w rm).toNat

/-- 41_arithmetic.md rule R191. -/
def execDiv (w : Width) (rm : Rm) (s : State) : Answer :=
  let t := s.afterRm w rm
  .next (if (s.readRm w rm).toNat = 0 ∨ 2 ^ w.bits ≤ s.divQuotient w rm then t.divideError
    else (t.setQuotient w (BitVec.ofNat w.bits (s.divQuotient w rm))
      (BitVec.ofNat w.bits (s.divRemainder w rm))).undefine allStatus)

/-- The quotient of IDIV, truncated towards 0, and the remainder, with the sign of the dividend
(41_arithmetic.md rule R192). -/
def State.idivQuotient (s : State) (w : Width) (rm : Rm) : Int :=
  Int.tdiv (s.dividend w).toInt (s.readRm w rm).toInt
def State.idivRemainder (s : State) (w : Width) (rm : Rm) : Int :=
  (s.dividend w).toInt - s.idivQuotient w rm * (s.readRm w rm).toInt

/-- 41_arithmetic.md rule R192. -/
def execIdiv (w : Width) (rm : Rm) (s : State) : Answer :=
  let t := s.afterRm w rm
  .next (if (s.readRm w rm).toInt = 0 ∨ signedQuotientFits w (s.idivQuotient w rm) = false then t.divideError
    else (t.setQuotient w (BitVec.ofInt w.bits (s.idivQuotient w rm))
      (BitVec.ofInt w.bits (s.idivRemainder w rm))).undefine allStatus)

/-- The result of AAD (41_arithmetic.md rule R193). -/
def State.aadResult (s : State) : Byte := BitVec.ofNat 8 (s.al.toNat + 10 * s.ah.toNat)

/-- 41_arithmetic.md rule R193. -/
def execAad (s : State) : Answer :=
  .next (((s.setAhAl 0 s.aadResult).setFlags (s.flags.szp s.aadResult)).undefine [.oF, .af, .cf])

/-! ## Sign extension -/

/-- 41_arithmetic.md rule R195. -/
def execCbw (s : State) : Answer := .next (s.setAhAl (if s.al.msb then 0xFF else 0) s.al)

/-- 41_arithmetic.md rule R196. -/
def execCwd (s : State) : Answer := .next (s.setReg16 .dxDl (if s.regs.ax.msb then 0xFFFF else 0))

end Sys2Proof.Machine
end

