-- ==== Sys2Proof/Machine/Logic.lean ====
section
/-! DEFINITION. The logic, shift and rotate instructions (42_logic_shift_rotate.md). -/

namespace Sys2Proof.Machine

/-! ## Shared operations -/

/-- logic_flags(r) (42_logic_shift_rotate.md rule R211): AF is left undefined. -/
def State.logicFlags (s : State) {n : Nat} (r : BitVec n) : State := (s.setFlags (s.flags.logic r)).undefine [.af]

/-- dst <- r; logic_flags(r), where `rm` is the operand that is read over the bus. -/
def State.logicTo (s : State) (w : Width) (rm dst : Rm) (r : BitVec w.bits) : State :=
  ((s.afterRm w rm).writeRm w dst r).logicFlags r

/-- The seven operations of the shift and rotate group (42_logic_shift_rotate.md rule R212). -/
inductive ShiftOp where
  | rol
  | ror
  | rcl
  | rcr
  | shl
  | shr
  | sar
  deriving DecidableEq, Repr

/-- One one-bit step on the operand and CF (42_logic_shift_rotate.md rules R214 to R220). -/
def shiftStep {n : Nat} (op : ShiftOp) (x : BitVec n × Bool) : BitVec n × Bool :=
  match op with
  | .rol => (x.1 <<< 1 ||| (BitVec.ofBool x.1.msb).setWidth n, x.1.msb)
  | .ror => (x.1 >>> 1 ||| (BitVec.ofBool (x.1.getLsbD 0)).setWidth n <<< (n - 1), x.1.getLsbD 0)
  | .rcl => (x.1 <<< 1 ||| (BitVec.ofBool x.2).setWidth n, x.1.msb)
  | .rcr => (x.1 >>> 1 ||| (BitVec.ofBool x.2).setWidth n <<< (n - 1), x.1.getLsbD 0)
  | .shl => (x.1 <<< 1, x.1.msb)
  | .shr => (x.1 >>> 1, x.1.getLsbD 0)
  | .sar => (x.1 >>> 1 ||| (BitVec.ofBool x.1.msb).setWidth n <<< (n - 1), x.1.getLsbD 0)

/-- `count` repetitions of the one-bit step (42_logic_shift_rotate.md rule R213). -/
def shiftIter {n : Nat} (op : ShiftOp) : Nat → BitVec n × Bool → BitVec n × Bool
  | 0, x => x
  | k + 1, x => shiftIter op k (shiftStep op x)

/-- OF of a one-bit shift or rotate: `x0` before, `x` after, `c` the CF after
(42_logic_shift_rotate.md rules R214 to R220). -/
def shiftOverflow {n : Nat} (op : ShiftOp) (x0 x : BitVec n) (c : Bool) : Bool :=
  match op with
  | .rol => x.msb ^^ c
  | .rcl => x.msb ^^ c
  | .shl => x.msb ^^ c
  | .ror => x.msb ^^ x.getLsbD (n - 2)
  | .rcr => x.msb ^^ x.getLsbD (n - 2)
  | .shr => x0.msb
  | .sar => false

/-- The flags the operation defines: CF and, for the shifts, SF, ZF and PF; for a count of 1, OF. -/
def shiftFlags {n : Nat} (op : ShiftOp) (count : Nat) (f : Flags) (x0 : BitVec n) (x : BitVec n × Bool) : Flags :=
  let g : Flags := match op with
    | .rol => f
    | .ror => f
    | .rcl => f
    | .rcr => f
    | .shl => f.szp x.1
    | .shr => f.szp x.1
    | .sar => f.szp x.1
  { g with cf := x.2, oF := if count = 1 then shiftOverflow op x0 x.1 x.2 else f.oF }

/-- The flags the operation leaves undefined for a count that is not 0: AF for the shifts, OF unless the count is 1, CF
of SHL and SHR for a count of N or more (42_logic_shift_rotate.md rules R214 to R220). -/
def shiftUndefined (op : ShiftOp) (n count : Nat) : List StatusFlag :=
  (if count = 1 then [] else [.oF]) ++
  match op with
  | .rol => []
  | .ror => []
  | .rcl => []
  | .rcr => []
  | .shl => if n ≤ count then [.af, .cf] else [.af]
  | .shr => if n ≤ count then [.af, .cf] else [.af]
  | .sar => [.af]

/-- A shift or rotate of E (42_logic_shift_rotate.md rules R212 and R213). A count of 0 changes nothing and writes
nothing (92_eei_decisions.md D29); E is read whatever the count. -/
def State.shift (s : State) (op : ShiftOp) (w : Width) (v : Count) (rm : Rm) : State :=
  if s.shiftCount v = 0 then s.afterRm w rm
  else
    let x0 := s.readRm w rm
    let x := shiftIter op (s.shiftCount v) (x0, s.flags.cf)
    (((s.afterRm w rm).writeRm w rm x.1).setFlags (shiftFlags op (s.shiftCount v) s.flags x0 x)).undefine
      (shiftUndefined op w.bits (s.shiftCount v))

/-! ## NOT -/

/-- 42_logic_shift_rotate.md rule R210. -/
def execNot (w : Width) (rm : Rm) (s : State) : Answer := .next ((s.afterRm w rm).writeRm w rm (~~~ s.readRm w rm))

/-! ## Shifts and rotates -/

/-- 42_logic_shift_rotate.md rule R217. -/
def execRol (w : Width) (v : Count) (rm : Rm) (s : State) : Answer := .next (s.shift .rol w v rm)

/-- 42_logic_shift_rotate.md rule R218. -/
def execRor (w : Width) (v : Count) (rm : Rm) (s : State) : Answer := .next (s.shift .ror w v rm)

/-- 42_logic_shift_rotate.md rule R219. -/
def execRcl (w : Width) (v : Count) (rm : Rm) (s : State) : Answer := .next (s.shift .rcl w v rm)

/-- 42_logic_shift_rotate.md rule R220. -/
def execRcr (w : Width) (v : Count) (rm : Rm) (s : State) : Answer := .next (s.shift .rcr w v rm)

/-- 42_logic_shift_rotate.md rule R214. -/
def execShl (w : Width) (v : Count) (rm : Rm) (s : State) : Answer := .next (s.shift .shl w v rm)

/-- 42_logic_shift_rotate.md rule R215. -/
def execShr (w : Width) (v : Count) (rm : Rm) (s : State) : Answer := .next (s.shift .shr w v rm)

/-- 42_logic_shift_rotate.md rule R216. -/
def execSar (w : Width) (v : Count) (rm : Rm) (s : State) : Answer := .next (s.shift .sar w v rm)

/-! ## AND, TEST, OR, XOR -/

/-- 42_logic_shift_rotate.md rule R221. -/
def execAndRmReg (w : Width) (d : Dir) (rm : Rm) (reg : Reg) (s : State) : Answer :=
  .next (s.logicTo w rm (destOperand d rm reg) (s.readRm w (destOperand d rm reg) &&& s.sourceOperand w d rm reg))

/-- 42_logic_shift_rotate.md rule R222. -/
def execAndRmImm (imm : Imm) (rm : Rm) (s : State) : Answer :=
  .next (s.logicTo (immWidth imm) rm rm (s.readRm (immWidth imm) rm &&& immValue imm))

/-- 42_logic_shift_rotate.md rule R223. -/
def execAndAccImm (imm : Imm) (s : State) : Answer :=
  .next (s.logicTo (immWidth imm) (.reg .axAl) (.reg .axAl) (s.acc (immWidth imm) &&& immValue imm))

/-- 42_logic_shift_rotate.md rule R227. -/
def execOrRmReg (w : Width) (d : Dir) (rm : Rm) (reg : Reg) (s : State) : Answer :=
  .next (s.logicTo w rm (destOperand d rm reg) (s.readRm w (destOperand d rm reg) ||| s.sourceOperand w d rm reg))

/-- 42_logic_shift_rotate.md rule R228. -/
def execOrRmImm (imm : Imm) (rm : Rm) (s : State) : Answer :=
  .next (s.logicTo (immWidth imm) rm rm (s.readRm (immWidth imm) rm ||| immValue imm))

/-- 42_logic_shift_rotate.md rule R229. -/
def execOrAccImm (imm : Imm) (s : State) : Answer :=
  .next (s.logicTo (immWidth imm) (.reg .axAl) (.reg .axAl) (s.acc (immWidth imm) ||| immValue imm))

/-- 42_logic_shift_rotate.md rule R230. -/
def execXorRmReg (w : Width) (d : Dir) (rm : Rm) (reg : Reg) (s : State) : Answer :=
  .next (s.logicTo w rm (destOperand d rm reg) (s.readRm w (destOperand d rm reg) ^^^ s.sourceOperand w d rm reg))

/-- 42_logic_shift_rotate.md rule R231. -/
def execXorRmImm (imm : Imm) (rm : Rm) (s : State) : Answer :=
  .next (s.logicTo (immWidth imm) rm rm (s.readRm (immWidth imm) rm ^^^ immValue imm))

/-- 42_logic_shift_rotate.md rule R232. -/
def execXorAccImm (imm : Imm) (s : State) : Answer :=
  .next (s.logicTo (immWidth imm) (.reg .axAl) (.reg .axAl) (s.acc (immWidth imm) ^^^ immValue imm))

/-- 42_logic_shift_rotate.md rule R224. -/
def execTestRmReg (w : Width) (rm : Rm) (reg : Reg) (s : State) : Answer :=
  .next ((s.afterRm w rm).logicFlags (s.readRm w rm &&& s.reg w reg))

/-- 42_logic_shift_rotate.md rule R225. -/
def execTestRmImm (imm : Imm) (rm : Rm) (s : State) : Answer :=
  .next ((s.afterRm (immWidth imm) rm).logicFlags (s.readRm (immWidth imm) rm &&& immValue imm))

/-- 42_logic_shift_rotate.md rule R226. -/
def execTestAccImm (imm : Imm) (s : State) : Answer :=
  .next (s.logicFlags (s.acc (immWidth imm) &&& immValue imm))

end Sys2Proof.Machine
end

