-- ==== Sys2Proof/Machine/Strings.lean ====
section
/-! DEFINITION. The string instructions and their repetition (43_string.md). A meaning is one element: without a repeat
prefix the whole instruction, with one a turn of the loop of rule R241, after which `progress.repeating` says whether
another turn follows. -/

namespace Sys2Proof.Machine

/-! ## Shared operations -/

/-- The z bit of the repeat prefix (43_string.md rule R240). -/
def RepKind.z (k : RepKind) : Bool :=
  match k with
  | .repnz => false
  | .repz => true

/-- No further turn of the instruction follows. -/
def State.lastTurn (s : State) : State := s.setProgress { s.progress with repeating := none }

/-- A further turn follows. -/
def State.anotherTurn (s : State) (p : InProgress) : State := s.setProgress { s.progress with repeating := some p }

/-- CX <- (CX - 1) mod 2^16, no flag changed. -/
def State.countDown (s : State) : State := s.setReg16 .cxCl (s.regs.cx - 1)

/-- Whether the repetition ends after the element just done: CX is 0 or, for CMPS and SCAS, ZF differs from z
(43_string.md rule R241). -/
def State.repeatDone (s : State) (k : RepKind) (compares : Bool) : Bool :=
  s.regs.cx == 0 || (compares && s.flags.zf != k.z)

/-- One turn of a string instruction whose element is `element` (43_string.md rule R241): CX = 0 performs no element. -/
def State.stringTurn (s : State) (p : InProgress) (compares : Bool) (element : State → State) : State :=
  match s.pre.rep with
  | none => (element s).lastTurn
  | some k =>
    if s.regs.cx = 0 then s.lastTurn
    else if (element s).countDown.repeatDone k compares then (element s).countDown.lastTurn
    else (element s).countDown.anotherTurn p

/-- One element of MOVS (43_string.md rule R244). -/
def State.movsElement (w : Width) (s : State) : State :=
  (((s.afterSource w).writeSeg s.segs.es s.regs.di w (s.sourceElement w)).stepSi w).stepDi w

/-- One element of CMPS: [seg:SI] minus [ES:DI] (43_string.md rule R245). -/
def State.cmpsElement (w : Width) (s : State) : State :=
  let t := s.afterSource w
  (((t.afterDest w).compare (s.sourceElement w) (t.destElement w)).stepSi w).stepDi w

/-- One element of SCAS: accumulator minus [ES:DI] (43_string.md rule R246). -/
def State.scasElement (w : Width) (s : State) : State :=
  ((s.afterDest w).compare (s.acc w) (s.destElement w)).stepDi w

/-- One element of LODS (43_string.md rule R247). -/
def State.lodsElement (w : Width) (s : State) : State := ((s.afterSource w).setAcc w (s.sourceElement w)).stepSi w

/-- One element of STOS (43_string.md rule R248). -/
def State.stosElement (w : Width) (s : State) : State := (s.writeSeg s.segs.es s.regs.di w (s.acc w)).stepDi w

/-! ## The five primitives -/

/-- 43_string.md rule R244. -/
def execMovs (w : Width) (s : State) : Answer := .next (s.stringTurn (.movs w) false (State.movsElement w))

/-- 43_string.md rule R245. -/
def execCmps (w : Width) (s : State) : Answer := .next (s.stringTurn (.cmps w) true (State.cmpsElement w))

/-- 43_string.md rule R246. -/
def execScas (w : Width) (s : State) : Answer := .next (s.stringTurn (.scas w) true (State.scasElement w))

/-- 43_string.md rule R247. -/
def execLods (w : Width) (s : State) : Answer := .next (s.stringTurn (.lods w) false (State.lodsElement w))

/-- 43_string.md rule R248. -/
def execStos (w : Width) (s : State) : Answer := .next (s.stringTurn (.stos w) false (State.stosElement w))

end Sys2Proof.Machine
end

