-- ==== Sys2Proof/Machine/Processor.lean ====
section
/-! DEFINITION. The processor control instructions and the prefixes (45_processor_control.md). A prefix byte sets its
piece of the per-instruction prefix state and nothing else (10_state.md rule R42). -/

namespace Sys2Proof.Machine

/-! ## Flag instructions -/

/-- 45_processor_control.md rule R320. -/
def execClc (s : State) : Answer := .next (s.setFlags { s.flags with cf := false })

/-- 45_processor_control.md rule R321. -/
def execCmc (s : State) : Answer := .next (s.setFlags { s.flags with cf := !s.flags.cf })

/-- 45_processor_control.md rule R322. -/
def execStc (s : State) : Answer := .next (s.setFlags { s.flags with cf := true })

/-- 45_processor_control.md rule R323. -/
def execCld (s : State) : Answer := .next (s.setFlags { s.flags with df := false })

/-- 45_processor_control.md rule R324. -/
def execStd (s : State) : Answer := .next (s.setFlags { s.flags with df := true })

/-- 45_processor_control.md rule R325. -/
def execCli (s : State) : Answer := .next (s.setFlags { s.flags with iF := false })

/-- 45_processor_control.md rule R326: opens the inhibit window, whatever IF was. -/
def execSti (s : State) : Answer :=
  .next ((s.setFlags { s.flags with iF := true }).setLatches { s.latches with inhibit := true })

/-! ## HLT, WAIT, ESC -/

/-- 45_processor_control.md rule R327. -/
def execHlt (s : State) : Answer :=
  .next ((s.setLatches { s.latches with halted := true }).busCycle fun t => t.log .halt)

/-- One look at TEST (45_processor_control.md rule R330): done when it is LOW, else another turn follows. -/
def execWait (s : State) : Answer := .next (if s.env.testLow then s.lastTurn else s.anotherTurn .wait)

/-- 45_processor_control.md rule R333: a memory operand is read as a word, which the host sees. -/
def execEsc (op : BitVec 6) (rm : Rm) (s : State) : Answer :=
  match rm with
  | .reg _ => .next s
  | .mem m =>
    .next ((s.afterRm .word (.mem m)).busCycle fun t => t.log (.escape op (phys (s.memSeg m) (s.memOff m))
      (phys (s.memSeg m) (s.memOff m + 1)) (s.readRm .word (.mem m))))

/-! ## Prefixes -/

/-- 45_processor_control.md rule R335: the last override wins (30_encoding.md rule R97). -/
def execSeg (sr : SReg) (s : State) : Answer := .next (s.setPre { s.pre with segOvr := some sr })

/-- 45_processor_control.md rule R334. -/
def execLock (s : State) : Answer := .next (s.setPre { s.pre with lock := true })

/-- 43_string.md rule R241, 0F2h: z = 0. -/
def execRepne (s : State) : Answer := .next (s.setPre { s.pre with rep := some .repnz })

/-- 43_string.md rule R241, 0F3h: z = 1. -/
def execRep (s : State) : Answer := .next (s.setPre { s.pre with rep := some .repz })

end Sys2Proof.Machine
end

