-- ==== Sys2Proof/Machine/Dispatch.lean ====
section
/-! DEFINITION. One arm for each instruction, in the order of spec/opcode_table.json. -/

namespace Sys2Proof.Machine

def exec (i : Instr) (s : State) : Host.Outcome State Fault Refusal :=
  match i with
  | .addRmReg w d rm reg => Sys2Proof.Machine.execAddRmReg w d rm reg s
  | .addRmImm imm rm => Sys2Proof.Machine.execAddRmImm imm rm s
  | .addAccImm imm => Sys2Proof.Machine.execAddAccImm imm s
  | .orRmReg w d rm reg => Sys2Proof.Machine.execOrRmReg w d rm reg s
  | .orRmImm imm rm => Sys2Proof.Machine.execOrRmImm imm rm s
  | .orAccImm imm => Sys2Proof.Machine.execOrAccImm imm s
  | .adcRmReg w d rm reg => Sys2Proof.Machine.execAdcRmReg w d rm reg s
  | .adcRmImm imm rm => Sys2Proof.Machine.execAdcRmImm imm rm s
  | .adcAccImm imm => Sys2Proof.Machine.execAdcAccImm imm s
  | .sbbRmReg w d rm reg => Sys2Proof.Machine.execSbbRmReg w d rm reg s
  | .sbbRmImm imm rm => Sys2Proof.Machine.execSbbRmImm imm rm s
  | .sbbAccImm imm => Sys2Proof.Machine.execSbbAccImm imm s
  | .andRmReg w d rm reg => Sys2Proof.Machine.execAndRmReg w d rm reg s
  | .andRmImm imm rm => Sys2Proof.Machine.execAndRmImm imm rm s
  | .andAccImm imm => Sys2Proof.Machine.execAndAccImm imm s
  | .subRmReg w d rm reg => Sys2Proof.Machine.execSubRmReg w d rm reg s
  | .subRmImm imm rm => Sys2Proof.Machine.execSubRmImm imm rm s
  | .subAccImm imm => Sys2Proof.Machine.execSubAccImm imm s
  | .xorRmReg w d rm reg => Sys2Proof.Machine.execXorRmReg w d rm reg s
  | .xorRmImm imm rm => Sys2Proof.Machine.execXorRmImm imm rm s
  | .xorAccImm imm => Sys2Proof.Machine.execXorAccImm imm s
  | .cmpRmReg w d rm reg => Sys2Proof.Machine.execCmpRmReg w d rm reg s
  | .cmpRmImm imm rm => Sys2Proof.Machine.execCmpRmImm imm rm s
  | .cmpAccImm imm => Sys2Proof.Machine.execCmpAccImm imm s
  | .pushSreg sr => Sys2Proof.Machine.execPushSreg sr s
  | .popEs => Sys2Proof.Machine.execPopEs s
  | .popSs => Sys2Proof.Machine.execPopSs s
  | .popDs => Sys2Proof.Machine.execPopDs s
  | .seg sr => Sys2Proof.Machine.execSeg sr s
  | .daa => Sys2Proof.Machine.execDaa s
  | .das => Sys2Proof.Machine.execDas s
  | .aaa => Sys2Proof.Machine.execAaa s
  | .aas => Sys2Proof.Machine.execAas s
  | .incR16 reg => Sys2Proof.Machine.execIncR16 reg s
  | .decR16 reg => Sys2Proof.Machine.execDecR16 reg s
  | .pushR16 reg => Sys2Proof.Machine.execPushR16 reg s
  | .popR16 reg => Sys2Proof.Machine.execPopR16 reg s
  | .jo disp => Sys2Proof.Machine.execJo disp s
  | .jno disp => Sys2Proof.Machine.execJno disp s
  | .jb disp => Sys2Proof.Machine.execJb disp s
  | .jnb disp => Sys2Proof.Machine.execJnb disp s
  | .je disp => Sys2Proof.Machine.execJe disp s
  | .jne disp => Sys2Proof.Machine.execJne disp s
  | .jbe disp => Sys2Proof.Machine.execJbe disp s
  | .jnbe disp => Sys2Proof.Machine.execJnbe disp s
  | .js disp => Sys2Proof.Machine.execJs disp s
  | .jns disp => Sys2Proof.Machine.execJns disp s
  | .jp disp => Sys2Proof.Machine.execJp disp s
  | .jnp disp => Sys2Proof.Machine.execJnp disp s
  | .jl disp => Sys2Proof.Machine.execJl disp s
  | .jnl disp => Sys2Proof.Machine.execJnl disp s
  | .jle disp => Sys2Proof.Machine.execJle disp s
  | .jnle disp => Sys2Proof.Machine.execJnle disp s
  | .testRmReg w rm reg => Sys2Proof.Machine.execTestRmReg w rm reg s
  | .xchgRmReg w rm reg => Sys2Proof.Machine.execXchgRmReg w rm reg s
  | .movRmReg w d rm reg => Sys2Proof.Machine.execMovRmReg w d rm reg s
  | .movRmSreg rm sr => Sys2Proof.Machine.execMovRmSreg rm sr s
  | .lea reg m => Sys2Proof.Machine.execLea reg m s
  | .movEsRm rm => Sys2Proof.Machine.execMovEsRm rm s
  | .movSsRm rm => Sys2Proof.Machine.execMovSsRm rm s
  | .movDsRm rm => Sys2Proof.Machine.execMovDsRm rm s
  | .popRm rm => Sys2Proof.Machine.execPopRm rm s
  | .nop => Sys2Proof.Machine.execNop s
  | .xchgAxCx => Sys2Proof.Machine.execXchgAxCx s
  | .xchgAxDxBx reg => Sys2Proof.Machine.execXchgAxDxBx reg s
  | .xchgAxIndex reg => Sys2Proof.Machine.execXchgAxIndex reg s
  | .cbw => Sys2Proof.Machine.execCbw s
  | .cwd => Sys2Proof.Machine.execCwd s
  | .callFar off sgm => Sys2Proof.Machine.execCallFar off sgm s
  | .wait => Sys2Proof.Machine.execWait s
  | .pushf => Sys2Proof.Machine.execPushf s
  | .popf => Sys2Proof.Machine.execPopf s
  | .sahf => Sys2Proof.Machine.execSahf s
  | .lahf => Sys2Proof.Machine.execLahf s
  | .movAccMem w addr => Sys2Proof.Machine.execMovAccMem w addr s
  | .movMemAcc w addr => Sys2Proof.Machine.execMovMemAcc w addr s
  | .movs w => Sys2Proof.Machine.execMovs w s
  | .cmps w => Sys2Proof.Machine.execCmps w s
  | .stos w => Sys2Proof.Machine.execStos w s
  | .lods w => Sys2Proof.Machine.execLods w s
  | .scas w => Sys2Proof.Machine.execScas w s
  | .testAccImm imm => Sys2Proof.Machine.execTestAccImm imm s
  | .movRegImm imm reg => Sys2Proof.Machine.execMovRegImm imm reg s
  | .retNearImm n => Sys2Proof.Machine.execRetNearImm n s
  | .retNear => Sys2Proof.Machine.execRetNear s
  | .les reg m => Sys2Proof.Machine.execLes reg m s
  | .lds reg m => Sys2Proof.Machine.execLds reg m s
  | .movRmImm imm rm => Sys2Proof.Machine.execMovRmImm imm rm s
  | .retFarImm n => Sys2Proof.Machine.execRetFarImm n s
  | .retFar => Sys2Proof.Machine.execRetFar s
  | .int3 => Sys2Proof.Machine.execInt3 s
  | .int type => Sys2Proof.Machine.execInt type s
  | .into => Sys2Proof.Machine.execInto s
  | .iret => Sys2Proof.Machine.execIret s
  | .rol w v rm => Sys2Proof.Machine.execRol w v rm s
  | .ror w v rm => Sys2Proof.Machine.execRor w v rm s
  | .rcl w v rm => Sys2Proof.Machine.execRcl w v rm s
  | .rcr w v rm => Sys2Proof.Machine.execRcr w v rm s
  | .shl w v rm => Sys2Proof.Machine.execShl w v rm s
  | .shr w v rm => Sys2Proof.Machine.execShr w v rm s
  | .sar w v rm => Sys2Proof.Machine.execSar w v rm s
  | .aam => Sys2Proof.Machine.execAam s
  | .aad => Sys2Proof.Machine.execAad s
  | .xlat => Sys2Proof.Machine.execXlat s
  | .esc op rm => Sys2Proof.Machine.execEsc op rm s
  | .loopnz disp => Sys2Proof.Machine.execLoopnz disp s
  | .loopz disp => Sys2Proof.Machine.execLoopz disp s
  | .loop disp => Sys2Proof.Machine.execLoop disp s
  | .jcxz disp => Sys2Proof.Machine.execJcxz disp s
  | .inImm w port => Sys2Proof.Machine.execInImm w port s
  | .outImm w port => Sys2Proof.Machine.execOutImm w port s
  | .callNear disp => Sys2Proof.Machine.execCallNear disp s
  | .jmpNear disp => Sys2Proof.Machine.execJmpNear disp s
  | .jmpFar off sgm => Sys2Proof.Machine.execJmpFar off sgm s
  | .jmpShort disp => Sys2Proof.Machine.execJmpShort disp s
  | .inDx w => Sys2Proof.Machine.execInDx w s
  | .outDx w => Sys2Proof.Machine.execOutDx w s
  | .lock => Sys2Proof.Machine.execLock s
  | .repne => Sys2Proof.Machine.execRepne s
  | .rep => Sys2Proof.Machine.execRep s
  | .hlt => Sys2Proof.Machine.execHlt s
  | .cmc => Sys2Proof.Machine.execCmc s
  | .testRmImm imm rm => Sys2Proof.Machine.execTestRmImm imm rm s
  | .not w rm => Sys2Proof.Machine.execNot w rm s
  | .neg w rm => Sys2Proof.Machine.execNeg w rm s
  | .mul w rm => Sys2Proof.Machine.execMul w rm s
  | .imul w rm => Sys2Proof.Machine.execImul w rm s
  | .div w rm => Sys2Proof.Machine.execDiv w rm s
  | .idiv w rm => Sys2Proof.Machine.execIdiv w rm s
  | .clc => Sys2Proof.Machine.execClc s
  | .stc => Sys2Proof.Machine.execStc s
  | .cli => Sys2Proof.Machine.execCli s
  | .sti => Sys2Proof.Machine.execSti s
  | .cld => Sys2Proof.Machine.execCld s
  | .std => Sys2Proof.Machine.execStd s
  | .incRm w rm => Sys2Proof.Machine.execIncRm w rm s
  | .decRm w rm => Sys2Proof.Machine.execDecRm w rm s
  | .callRm rm => Sys2Proof.Machine.execCallRm rm s
  | .callFarMem m => Sys2Proof.Machine.execCallFarMem m s
  | .jmpRm rm => Sys2Proof.Machine.execJmpRm rm s
  | .jmpFarMem m => Sys2Proof.Machine.execJmpFarMem m s
  | .pushRm rm => Sys2Proof.Machine.execPushRm rm s

end Sys2Proof.Machine
end

