-- ==== Sys2Proof/Machine/Cycle.lean ====
section
/-! DEFINITION. One step of the machine: the host's events, then one prefix byte, one instruction, one element of a
repeated string instruction or one turn of a wait, then the boundary of 60_exceptions.md rule R364 where there is one. -/

namespace Sys2Proof.Machine

/-! ## The host's events -/

/-- RESET (70_reset_and_hazards.md rule R390): the state of 10_state.md rule R43, memory and the host's side unchanged.
The registers to which the rule gives no value take those of `State.reset` (log entry 1). -/
def State.resetCpu (s : State) : State :=
  ((State.reset.setMem s.mem).setEnv { s.env with cut := none }).setDraws s.draws

/-- Where the bus is not locked, the writes that waited for it are made (20_memory.md rule R71: they are honoured at the
end of the LOCK). -/
def State.releaseBus (s : State) : State :=
  if s.busLocked then s else (s.setEnv { s.env with waiting := [] }).masterWrites s.env.waiting.flatten

/-- Writes of other bus masters that wait for the next gap. -/
def State.putOff (s : State) (ws : List MasterWrite) : State := s.setEnv { s.env with waiting := s.env.waiting ++ [ws] }

/-- One event of the host (92_eei_decisions.md section 3; log entry 14). -/
def State.applyEvent (s : State) (e : HostEvent) : State :=
  match e with
  | .nmiEdge => s.setLatches { s.latches with nmiPending := true }
  | .intrLevel high => s.setEnv { s.env with intr := high }
  | .testLevel low => s.setEnv { s.env with testLow := low }
  | .reset => s.resetCpu.releaseBus
  | .busWrite w => if s.busLocked then s.putOff [w] else s.masterWrites [w]
  | .within ws => s.putOff ws
  | .resetWithin n => s.setEnv { s.env with cut := some n }

/-- The events of this step, in their order. -/
def State.takeInputs (s : State) : State :=
  match s.env.inputs with
  | [] => s
  | es :: rest => es.foldl State.applyEvent (s.setEnv { s.env with inputs := rest })

/-! ## Fetch -/

/-- The values a fetch of the byte at `a` may see: memory's, and those overwritten while they could be in the queue. -/
def State.fetchChoices (s : State) (a : Nat) : List Byte :=
  ((s.stale.filter fun c => c.1 == a).map Prod.snd) ++ [s.byteAt a]

/-- The byte of memory a fetch at `a` sees, with choice number `k` if there is a choice. -/
def State.fetchMemory (s : State) (a k : Nat) : Byte :=
  match s.fetchChoices a with
  | [] => s.byteAt a
  | [b] => b
  | b :: c :: bs => (b :: c :: bs).getD (Config.freeFetch k % (b :: c :: bs).length) b

/-- The byte a fetch at `a` sees, with draw number `k`: memory's, one of those overwritten if there is a choice
(93_implementation_defined.md U7), or a free value where there is no memory (20_memory.md rule R61). -/
def State.fetchByte (s : State) (a k : Nat) : Byte :=
  match s.kindAt a with
  | .ram => s.fetchMemory a k
  | .rom => s.fetchMemory a k
  | .absent => Config.freeBus a k
  | .device => Config.freeBus a k

/-- Physical address of the i-th byte from CS:IP on; IP wraps (10_state.md rule R28). -/
def State.fetchAddress (s : State) (i : Nat) : Nat := phys s.segs.cs (s.ip + BitVec.ofNat 16 i)

/-- The next six bytes of the instruction stream (30_encoding.md rules R81 and R112). -/
def State.fetchWindow (s : State) : List Byte :=
  (List.range maxLength).map fun i => s.fetchByte (s.fetchAddress i) (s.draws + i)

/-- The bytes consumed leave the queue. -/
def State.staleBeyond (s : State) (len : Nat) : List Host.Cell :=
  s.stale.filter fun c => !((List.range len).any fun i => s.fetchAddress i == c.1)

/-- The state after the fetch of `len` bytes: IP is past the instruction (10_state.md rule R28). -/
def State.advance (s : State) (len : Nat) : State :=
  ((s.setStale (s.staleBeyond len)).setDraws (s.draws + maxLength)).setIp
    (s.ip + BitVec.ofNat 16 len)

/-- At the first byte of an instruction its address is kept and TF is sampled (43_string.md rule R242, 60_exceptions.md
rule R358); at a later byte nothing is done. -/
def State.beginInstr (s : State) : State :=
  if s.progress.mid then s
  else s.setProgress { s.progress with mid := true, instrIp := s.ip, t0 := s.flags.tf }

/-! ## The boundary -/

/-- The IP an entry made now saves: that of the first prefix byte while a turn of the instruction is left to run, else
that of the next instruction (60_exceptions.md rule R364). -/
def State.savedIp (s : State) : Word := if s.progress.repeating.isSome then s.progress.instrIp else s.ip

/-- The single-step trap, if TF was set when the instruction began (60_exceptions.md rule R358). -/
def State.trapStep (s : State) : State := if s.progress.t0 then s.enterBetween 1 s.savedIp else s

/-- The boundary at points 1 and 2 (60_exceptions.md rule R364). -/
def State.boundary (s : State) : State :=
  if s.latches.inhibit then
    let t := s.setLatches { s.latches with inhibit := false }
    if s.progress.ssLoad then t else t.trapStep
  else (s.takeExternal s.savedIp).trapStep

/-- The prefix state lasts for one instruction (10_state.md rule R42): with no turn left to run it is cleared, and the
instruction is over. -/
def State.endInstr (s : State) : State :=
  if s.progress.repeating.isSome then s
  else (s.setPre Prefixes.none).setProgress { s.progress with mid := false, t0 := false, ssLoad := false }

/-- What follows the effect of an instruction or of one turn of it: the boundary at point 1, 2 or 3. In a turn of a WAIT
only NMI and INTR are looked at (60_exceptions.md rule R364). -/
def State.complete (s : State) : State :=
  if s.progress.repeating = some .wait then (s.takeExternal s.savedIp).endInstr else s.boundary.endInstr

/-- The boundary follows a next state; a refusal stays. -/
def completeAnswer (a : Answer) : Answer :=
  match a with
  | .next s => .next s.complete
  | .fault f => .fault f
  | .refused r => .refused r

/-! ## One step -/

/-- A prefix byte: no boundary follows it (60_exceptions.md rule R364). -/
def isPrefixByte (i : Instr) : Bool :=
  match i with
  | .seg _ => true
  | .lock => true
  | .repne => true
  | .rep => true
  | _ => false

/-- A string primitive, the only instruction a repeat prefix may precede (30_encoding.md rule R97). -/
def isStringPrimitive (i : Instr) : Bool :=
  match i with
  | .movs _ => true
  | .cmps _ => true
  | .stos _ => true
  | .lods _ => true
  | .scas _ => true
  | _ => false

/-- The instruction of which a turn is left to run. -/
def InProgress.instr (p : InProgress) : Instr :=
  match p with
  | .movs w => .movs w
  | .cmps w => .cmps w
  | .stos w => .stos w
  | .lods w => .lods w
  | .scas w => .scas w
  | .wait => .wait

/-- An instruction that has been fetched. A prefix byte sets its latch; a repeat prefix before anything but a string
primitive is `Undefined` (30_encoding.md rule R97). -/
def runInstr (i : Instr) (s : State) : Answer :=
  if isPrefixByte i then exec i s
  else if s.pre.rep.isSome && !isStringPrimitive i then .refused .repeatBeforeNonString
  else completeAnswer (exec i s)

/-- Fetch, decode and execute at CS:IP (30_encoding.md rule R98). -/
def State.fetchAndRun (s : State) : Answer :=
  match decode s.fetchWindow with
  | .error e => .refused (.undefinedEncoding e)
  | .ok (i, len) => runInstr i (s.beginInstr.advance len).gap

/-- One step once the host's events are in: a turn of the halt loop (60_exceptions.md rule R364, point 4), a further
turn of the instruction in progress, or the next fetch. -/
def State.turn (s : State) : Answer :=
  if s.latches.halted then .next (s.takeExternal s.ip)
  else match s.progress.repeating with
    | some p => completeAnswer (exec p.instr s)
    | none => s.fetchAndRun

/-- An NMI edge that came after reset and before the first fetch is taken either before the first instruction or after
it, by a draw (70_reset_and_hazards.md rule R391). -/
def State.firstTurn (s : State) : Answer :=
  let t := s.setProgress { s.progress with freshReset := false }
  if s.latches.nmiPending then
    if Config.freeFlag s.draws then .next ((t.setDraws (s.draws + 1)).takeNmi s.ip)
    else (t.setDraws (s.draws + 1)).turn
  else t.turn

/-- The end of a step: RESET takes effect if it went high in the step (70_reset_and_hazards.md rule R390), and the other
masters' writes that found no gap are made. -/
def State.finish (s : State) : State := (if s.env.cut.isSome then s.resetCpu else s).releaseBus

/-- The end of a step follows a next state; a refusal stays. -/
def finishAnswer (a : Answer) : Answer :=
  match a with
  | .next s => .next s.finish
  | .fault f => .fault f
  | .refused r => .refused r

/-- One step of the machine. -/
def cycle (s : State) : Answer :=
  finishAnswer (if s.takeInputs.progress.freshReset then s.takeInputs.firstTurn else s.takeInputs.turn)

/-! ## Placing an instruction -/

/-- The bytes stored from CS:IP on, one after the other. -/
def State.placeBytes (s : State) : List Byte → Nat → State
  | [], _ => s
  | b :: bs, i => (s.setMem (Memory.write s.mem (s.fetchAddress i) b)).placeBytes bs (i + 1)

/-- The state whose very next step fetches and runs the instruction placed: its bytes at CS:IP, in RAM, the queue empty,
and nothing else (a halt, a turn left to run, a reset just made, an event of the host) that would come before the fetch or
cut the step. -/
def State.placeInstr (s : State) (bs : List Byte) : State :=
  ((((s.placeBytes bs 0).setStale []).setLatches { s.latches with halted := false }).setProgress
    { s.progress with repeating := none, freshReset := false }).setEnv
    { s.env with map := [], inputs := [], waiting := [], cut := none }

end Sys2Proof.Machine
end

