-- ==== Sys2Proof/Machine/Step.lean ====
section
/-! DEFINITION. The step, and how a word becomes the next instruction. Both only call Machine/Cycle.lean. -/

namespace Sys2Proof.Machine

def step (s : State) : Host.Outcome State Fault Refusal := cycle s

/-- `s` with the instruction whose bits are the low `nbits` of `w` stored at CS:IP (log entry 17). -/
def State.withFetchWord (s : State) (nbits w : Nat) : State :=
  s.placeInstr (bytesOf (w % 2 ^ nbits) maxLength)

end Sys2Proof.Machine
end

