-- ==== Sys2Proof/Safety.lean ====
section
/-! DEFINITION. The terms the statements are written in: what an instruction leaves unchanged, where a result is held,
and the invariant of the machine between two steps. -/

namespace Sys2Proof.Machine

/-! ## Reading a state -/

/-- A status flag by name. -/
def Flags.status (f : Flags) (n : StatusFlag) : Bool :=
  match n with
  | .cf => f.cf
  | .pf => f.pf
  | .af => f.af
  | .zf => f.zf
  | .sf => f.sf
  | .oF => f.oF

/-- The word at the top of the stack of `s`, and the words above it (44_control_transfer.md rule R309). -/
def State.stackWord (s : State) (depth : Word) : Word := s.readSeg s.segs.ss (s.regs.sp + depth) .word

/-- The word of memory at a physical address, low byte first; the high byte's address wraps at 2^20. -/
def State.wordAt (s : State) (a : Nat) : Word := joinBytes (s.byteAt ((a + 1) % 2 ^ 20)) (s.byteAt a)

/-- RAM answers at each of the addresses (20_memory.md rule R61). -/
def State.AllRam (s : State) (as : List Nat) : Prop := ∀ a ∈ as, s.kindAt a = .ram

/-- `t` holds `v` where `s` finds the operand `dst`: in the register, or in the bytes at its address if they are RAM. -/
def Holds (s t : State) (w : Width) (dst : Rm) (v : BitVec w.bits) : Prop :=
  match dst with
  | .reg r => t.reg w r = v
  | .mem m => s.AllRam (s.rmBytes w dst) → t.readSeg (s.memSeg m) (s.memOff m) w = v

/-- The CPU alone with its memory: every address is RAM or ROM, no other bus master waits, and no RESET comes in this
step (92_eei_decisions.md section 3, last paragraph). What devices and other masters add is said by statements of their
own. -/
def Plain (s : State) : Prop :=
  (∀ r ∈ s.env.map, r.kind = .ram ∨ r.kind = .rom) ∧ s.env.waiting = [] ∧ s.env.cut = none

/-! ## Frames -/

/-- Every general register but those named keeps its value. -/
def SameRegsBut (rs : List Reg) (s t : State) : Prop := ∀ r, r ∉ rs → t.regs.get16 r = s.regs.get16 r

/-- A result of width `w` in `dst` reaches no other register, and not the other half of a 16-bit register. -/
def SameRegsOutside (w : Width) (dst : Rm) (s t : State) : Prop :=
  match dst, w with
  | .mem _, _ => t.regs = s.regs
  | .reg r, .word => SameRegsBut [r] s t
  | .reg r, .byte => (∀ q, q ≠ r → t.regs.get8 q = s.regs.get8 q) ∧ SameRegsBut [.axAl, .cxCl, .dxDl, .bxBl] s t

/-- Every byte of memory outside the addresses named, and every byte that is no RAM, is as before. -/
def SameBytesOutside (as : List Nat) (s t : State) : Prop :=
  ∀ a, a ∉ as ∨ s.kindAt a ≠ .ram → t.byteAt a = s.byteAt a

/-- The control flags TF, IF and DF, and the status flags but those named, keep their values. -/
def SameFlagsBut (ns : List StatusFlag) (s t : State) : Prop :=
  t.flags.tf = s.flags.tf ∧ t.flags.iF = s.flags.iF ∧ t.flags.df = s.flags.df
    ∧ ∀ n, n ∉ ns → t.flags.status n = s.flags.status n

/-- The hidden state and the host's side: prefixes, latches, the place inside the instruction, ports and events. -/
def SameHidden (s t : State) : Prop :=
  t.pre = s.pre ∧ t.latches = s.latches ∧ t.progress = s.progress ∧ t.env = s.env

/-- Segment registers, IP and hidden state unchanged: an instruction that neither transfers control nor loads a
segment register. -/
def SameControl (s t : State) : Prop := t.segs = s.segs ∧ t.ip = s.ip ∧ SameHidden s t

/-- The frame of an instruction whose one destination is `dst` of width `w`, flags apart. -/
def FrameOf (w : Width) (dst : Rm) (s t : State) : Prop :=
  SameRegsOutside w dst s t ∧ SameBytesOutside (s.rmBytes w dst) s t ∧ SameControl s t

/-- The frame of an instruction that writes the registers named and nothing in memory, flags apart. -/
def FrameRegs (rs : List Reg) (s t : State) : Prop :=
  SameRegsBut rs s t ∧ SameBytesOutside [] s t ∧ SameControl s t

/-! ## The rules' own words -/

/-- SF, ZF and PF of a result (10_state.md rule R30). -/
def SetsSzp {n : Nat} (f : Flags) (r : BitVec n) : Prop :=
  (f.sf = true ↔ r.toInt < 0) ∧ (f.zf = true ↔ r.toNat = 0)
    ∧ (f.pf = true ↔ ((List.range 8).filter fun i => r.getLsbD i).length % 2 = 0)

/-- A signed value that fits in `n` bits (00_scope.md rule R12). -/
def FitsSigned (n : Nat) (x : Int) : Prop := -2 ^ (n - 1) ≤ x ∧ x < 2 ^ (n - 1)

/-- The six flags of a + b + c: the carry out of the top bit, the carry out of bit 3, and the signed sum that does not
fit (10_state.md rule R30). -/
def AddFlags {n : Nat} (f : Flags) (a b : BitVec n) (c : Nat) (r : BitVec n) : Prop :=
  SetsSzp f r ∧ (f.cf = true ↔ 2 ^ n ≤ a.toNat + b.toNat + c)
    ∧ (f.af = true ↔ 16 ≤ a.toNat % 16 + b.toNat % 16 + c)
    ∧ (f.oF = true ↔ ¬ FitsSigned n (a.toInt + b.toInt + c))

/-- The six flags of a - b - c: the borrow into the top bit, the borrow into bit 3, and the signed difference that does
not fit (10_state.md rule R30). -/
def SubFlags {n : Nat} (f : Flags) (a b : BitVec n) (c : Nat) (r : BitVec n) : Prop :=
  SetsSzp f r ∧ (f.cf = true ↔ a.toNat < b.toNat + c)
    ∧ (f.af = true ↔ a.toNat % 16 < b.toNat % 16 + c)
    ∧ (f.oF = true ↔ ¬ FitsSigned n (a.toInt - b.toInt - c))

/-- The six bytes an interrupt entry pushes. -/
def frameBytes (s : State) : List Nat :=
  accessBytes s.segs.ss (s.regs.sp - 2) .word ++ accessBytes s.segs.ss (s.regs.sp - 4) .word
    ++ accessBytes s.segs.ss (s.regs.sp - 6) .word

/-- The stack after an interrupt entry at `s` with the saved IP: from SP down, the FLAGS image of `s`, its CS, the
saved IP, where the stack is RAM (44_control_transfer.md rule R309). -/
def FrameStacked (s t : State) (savedIp : Word) : Prop :=
  t.regs.sp = s.regs.sp - 6
    ∧ (s.AllRam (frameBytes s) → t.stackWord 4 = s.flags.image ∧ t.stackWord 2 = s.segs.cs ∧ t.stackWord 0 = savedIp)

/-- The interrupt entry of 60_exceptions.md rule R365 from `s` to `t`. -/
def Entered (type : Byte) (savedIp : Word) (s t : State) : Prop :=
  FrameStacked s t savedIp
    ∧ t.ip = t.wordAt (4 * type.toNat) ∧ t.segs.cs = t.wordAt (4 * type.toNat + 2)
    ∧ t.flags = { s.flags with iF := false, tf := false }
    ∧ (∀ g, g ≠ SReg.cs → t.segs.get g = s.segs.get g) ∧ SameRegsBut [.spAh] s t
    ∧ SameBytesOutside (frameBytes s) s t
    ∧ t.latches = { s.latches with halted := false } ∧ t.pre = Prefixes.none ∧ t.progress.repeating = none
    ∧ t.stale = []

/-! ## Shapes of statements -/

/-- The instruction completes, and its next state is as `P` says. -/
def Completes (i : Instr) (s : State) (P : State → Prop) : Prop := ∃ t, exec i s = .next t ∧ P t

/-- `P` of every form of an arithmetic instruction: both directions, the four s:w immediates, and the accumulator
(30_encoding.md rules R83, R91 and R92), each with its width, destination and second operand. -/
def ArithForms (s : State) (rmReg : Width → Dir → Rm → Reg → Instr) (rmImm : ArithImm → Rm → Instr)
    (accImm : Imm → Instr) (P : Instr → (w : Width) → Rm → BitVec w.bits → Prop) : Prop :=
  (∀ w rm reg, P (rmReg w .fromReg rm reg) w rm (s.reg w reg))
    ∧ (∀ w rm reg, P (rmReg w .toReg rm reg) w (.reg reg) (s.readRm w rm))
    ∧ (∀ v rm, P (rmImm (.op80 v) rm) .byte rm v) ∧ (∀ v rm, P (rmImm (.op81 v) rm) .word rm v)
    ∧ (∀ v rm, P (rmImm (.op82 v) rm) .byte rm v) ∧ (∀ v rm, P (rmImm (.op83 v) rm) .word rm (v.signExtend 16))
    ∧ (∀ v, P (accImm (.byte v)) .byte (.reg .axAl) v) ∧ (∀ v, P (accImm (.word v)) .word (.reg .axAl) v)

/-- `P` of every form of a logic instruction: as `ArithForms`, with the two plain immediates only
(30_encoding.md rule R108). -/
def LogicForms (s : State) (rmReg : Width → Dir → Rm → Reg → Instr) (rmImm : Imm → Rm → Instr)
    (accImm : Imm → Instr) (P : Instr → (w : Width) → Rm → BitVec w.bits → Prop) : Prop :=
  (∀ w rm reg, P (rmReg w .fromReg rm reg) w rm (s.reg w reg))
    ∧ (∀ w rm reg, P (rmReg w .toReg rm reg) w (.reg reg) (s.readRm w rm))
    ∧ (∀ v rm, P (rmImm (.byte v) rm) .byte rm v) ∧ (∀ v rm, P (rmImm (.word v) rm) .word rm v)
    ∧ (∀ v, P (accImm (.byte v)) .byte (.reg .axAl) v) ∧ (∀ v, P (accImm (.word v)) .word (.reg .axAl) v)

/-- dst <- dst + b + c with the six flags of the sum, and nothing else (41_arithmetic.md rule R160). -/
def AddsInto (s : State) (c : Nat) (i : Instr) (w : Width) (dst : Rm) (b : BitVec w.bits) : Prop :=
  Completes i s fun t => ∃ r : BitVec w.bits,
    r.toNat = ((s.readRm w dst).toNat + b.toNat + c) % 2 ^ w.bits ∧ Holds s t w dst r
      ∧ AddFlags t.flags (s.readRm w dst) b c r ∧ SameFlagsBut allStatus s t ∧ FrameOf w dst s t

/-- dst <- dst - b - c with the six flags of the difference, and nothing else (41_arithmetic.md rule R160). -/
def SubtractsFrom (s : State) (c : Nat) (i : Instr) (w : Width) (dst : Rm) (b : BitVec w.bits) : Prop :=
  Completes i s fun t => ∃ r : BitVec w.bits,
    (r.toNat : Int) = ((s.readRm w dst).toNat - b.toNat - c : Int) % 2 ^ w.bits ∧ Holds s t w dst r
      ∧ SubFlags t.flags (s.readRm w dst) b c r ∧ SameFlagsBut allStatus s t ∧ FrameOf w dst s t

/-- The flags of dst - b, with no operand written (41_arithmetic.md rule R181). -/
def Compares (s : State) (i : Instr) (w : Width) (dst : Rm) (b : BitVec w.bits) : Prop :=
  Completes i s fun t => ∃ r : BitVec w.bits,
    (r.toNat : Int) = ((s.readRm w dst).toNat - b.toNat : Int) % 2 ^ w.bits
      ∧ SubFlags t.flags (s.readRm w dst) b 0 r ∧ SameFlagsBut allStatus s t ∧ FrameRegs [] s t

/-- logic_flags(r): OF and CF cleared, SF, ZF and PF by the result, AF left free (42_logic_shift_rotate.md rule R211). -/
def LogicFlags {n : Nat} (s t : State) (r : BitVec n) : Prop :=
  SetsSzp t.flags r ∧ t.flags.oF = false ∧ t.flags.cf = false ∧ SameFlagsBut allStatus s t

/-- dst <- r, where bit k of r is `f` of the bits k of dst and of b, with the logic flags, and nothing else. -/
def CombinesBits (s : State) (f : Bool → Bool → Bool) (i : Instr) (w : Width) (dst : Rm) (b : BitVec w.bits) : Prop :=
  Completes i s fun t => ∃ r : BitVec w.bits,
    (∀ k, k < w.bits → r.getLsbD k = f ((s.readRm w dst).getLsbD k) (b.getLsbD k)) ∧ Holds s t w dst r
      ∧ LogicFlags s t r ∧ FrameOf w dst s t

/-- The logic flags of the AND of two operands, neither of which is written. -/
def TestsBits (s : State) (i : Instr) (w : Width) (a b : BitVec w.bits) : Prop :=
  Completes i s fun t => ∃ r : BitVec w.bits,
    (∀ k, k < w.bits → r.getLsbD k = (a.getLsbD k && b.getLsbD k)) ∧ LogicFlags s t r ∧ FrameRegs [] s t

/-- A shift or rotate: `R` relates the operand and CF before to the operand and the flags after, and the flags it names may
change (42_logic_shift_rotate.md rules R212 and R213). -/
def Shifts (s : State) (i : Instr) (w : Width) (rm : Rm) (ns : List StatusFlag)
    (R : BitVec w.bits → Bool → BitVec w.bits → Flags → Prop) : Prop :=
  Completes i s fun t => ∃ r : BitVec w.bits,
    R (s.readRm w rm) s.flags.cf r t.flags ∧ Holds s t w rm r ∧ SameFlagsBut ns s t ∧ FrameOf w rm s t

/-- The word `v` is pushed: SP falls by 2 and the word is at SS:SP, if that is RAM (40_data_transfer.md rule R128). -/
def Pushes (i : Instr) (s : State) (v : Word) : Prop :=
  let as := accessBytes s.segs.ss (s.regs.sp - 2) .word
  Completes i s fun t => t.regs.sp = s.regs.sp - 2 ∧ (s.AllRam as → t.stackWord 0 = v) ∧ t.flags = s.flags
    ∧ SameRegsBut [.spAh] s t ∧ SameBytesOutside as s t ∧ SameControl s t

/-- A conditional transfer within the segment: IP moves by the displacement exactly when `c` holds, and nothing else
changes but CX where `cx` says so. -/
def JumpsWhen (i : Instr) (s : State) (c : Prop) (d : Byte) (cx : Word) : Prop :=
  Completes i s fun t => (c → t.ip = s.ip + d.signExtend 16) ∧ (¬ c → t.ip = s.ip) ∧ t.regs.cx = cx
    ∧ SameRegsBut [.cxCl] s t ∧ t.segs = s.segs ∧ t.flags = s.flags ∧ t.mem = s.mem ∧ SameHidden s t

/-- A transfer to CS:IP that leaves SP at `sp`, with the flags and all other registers as they were. -/
def Transfers (s t : State) (cs ip sp : Word) : Prop :=
  t.ip = ip ∧ t.segs.cs = cs ∧ t.regs.sp = sp ∧ t.stale = [] ∧ t.flags = s.flags ∧ SameRegsBut [.spAh] s t
    ∧ (∀ g, g ≠ SReg.cs → t.segs.get g = s.segs.get g) ∧ SameHidden s t

/-- One element of a string instruction without a repeat prefix: SI and DI move as `si` and `di` say, and a place in the
instruction is kept except that no turn is left to run (43_string.md rule R243). -/
def StringFrame (s t : State) (rs : List Reg) : Prop :=
  SameRegsBut rs s t ∧ t.segs = s.segs ∧ t.ip = s.ip ∧ t.pre = s.pre ∧ t.latches = s.latches ∧ t.env = s.env
    ∧ t.progress = { s.progress with repeating := none }

/-- How far an index register moves (43_string.md rule R243). -/
def elementStep (df : Bool) (w : Width) : Word :=
  match w, df with
  | .byte, false => 1
  | .byte, true => 0xFFFF
  | .word, false => 2
  | .word, true => 0xFFFE

/-- The next step fetches, decodes to `i` of `n` bytes, and runs it: no event of the host comes, the CPU is not halted, no
NMI came between a reset and this fetch, no turn is left to run, and a repeat prefix stands before a string primitive
only. -/
def Fetches (s : State) (i : Instr) (n : Nat) : Prop :=
  s.env.inputs = [] ∧ (s.progress.freshReset = true → s.latches.nmiPending = false) ∧ s.latches.halted = false
    ∧ s.progress.repeating = none ∧ decode s.fetchWindow = .ok (i, n) ∧ isPrefixByte i = false
    ∧ (s.pre.rep = none ∨ isStringPrimitive i = true)

/-- The state an instruction of `n` bytes acts on: IP past it (10_state.md rule R28), after the gap in which another master
may write. -/
def State.fetched (s : State) (n : Nat) : State :=
  ((s.setProgress { s.progress with freshReset := false }).beginInstr.advance n).gap

/-- A step that answers a state with these registers, flags and memory: nothing was entered after `t`. -/
def Follows (t u : State) : Prop :=
  u.regs = t.regs ∧ u.segs = t.segs ∧ u.ip = t.ip ∧ u.flags = t.flags ∧ u.mem = t.mem

/-- `n` steps, all of which answer a next state. -/
def stepsTo : Nat → State → State → Prop
  | 0, s, t => t = s
  | n + 1, s, t => ∃ u, step s = .next u ∧ stepsTo n u t

/-! ## The invariant -/

/-- What holds between two steps: memory is in its canonical form, the inhibit window is closed, nothing of the prefix
state or of t0 is left when no instruction is in progress, an instruction in progress has a prefix or a turn to run, a
turn of a string instruction has a repeat prefix, a turn of WAIT has none, the CPU does not halt inside an
instruction, no RESET is under way, and another master waits for the bus only while it is locked. -/
def StepInv (s : State) : Prop :=
  Memory.wf s.mem
    ∧ (∀ c ∈ s.stale, c.1 < 2 ^ 20)
    ∧ s.latches.inhibit = false
    ∧ s.progress.ssLoad = false
    ∧ (s.progress.mid = false → s.pre = Prefixes.none ∧ s.progress.repeating = none ∧ s.progress.t0 = false)
    ∧ (s.progress.mid = true → s.progress.repeating = none → s.pre ≠ Prefixes.none)
    ∧ (∀ p, s.progress.repeating = some p → (s.pre.rep = none ↔ p = .wait))
    ∧ (s.latches.halted = true → s.progress.mid = false)
    ∧ (s.progress.freshReset = true → s.progress.mid = false ∧ s.latches.halted = false)
    ∧ s.env.cut = none
    ∧ (s.busLocked = false → s.env.waiting = [])

/-- The host is quiet: no event comes, and no interrupt is pending or raised. -/
def Quiet (s : State) : Prop :=
  s.env.inputs = [] ∧ s.latches.nmiPending = false ∧ s.env.intr = false

end Sys2Proof.Machine
end

