-- ==== Sys2Proof/Certificates/Slice0/Obligations.lean ====
section
/-! DEFINITION. The statements for the provers, family by family in the order of the spec's files. -/

open Sys2Proof Sys2Proof.Machine

/-! ## Encoding -/

/-- Worked encodings of 30_encoding.md (rules R87, R88, R91, R93, R99) and of files 40 to 45 decode as written there. -/
def Obligations.DecodeWorkedEncodings : Prop :=
  decode [0x88, 0xCA] = .ok (.movRmReg .byte .fromReg (.reg .dxDl) .cxCl, 2)
    ∧ decode [0x8A, 0xD1] = .ok (.movRmReg .byte .toReg (.reg .cxCl) .dxDl, 2)
    ∧ decode [0xFE, 0xC4] = .ok (.incRm .byte (.reg .spAh), 2)
    ∧ decode [0xFF, 0x06, 0x00, 0x01] = .ok (.incRm .word (.mem (.direct 0x0100)), 4)
    ∧ decode [0xBF, 0x07, 0x00] = .ok (.movRegImm (.word 0x0007) .diBh, 3)
    ∧ decode [0xA1, 0x34, 0x12] = .ok (.movAccMem .word 0x1234, 3)
    ∧ decode [0x83, 0xC3, 0xFF] = .ok (.addRmImm (.op83 0xFF) (.reg .bxBl), 3)
    ∧ decode [0x8D, 0x47, 0x05] = .ok (.lea .axAl (.based .bx (.d8 0x05)), 3)
    ∧ decode [0xC7, 0x06, 0x00, 0x01, 0x34, 0x12] = .ok (.movRmImm (.word 0x1234) (.mem (.direct 0x0100)), 6)
    ∧ decode [0xEA, 0x00, 0x00, 0xFF, 0xFF] = .ok (.jmpFar 0x0000 0xFFFF, 5)
    ∧ decode [0xF6, 0xC3, 0x80] = .ok (.testRmImm (.byte 0x80) (.reg .bxBl), 3)
    ∧ decode [0xD8, 0x06, 0x00, 0x10] = .ok (.esc 0 (.mem (.direct 0x1000)), 4)

/-- Decoding the encoding of a well-formed instruction gives the instruction and its length, whatever bytes follow. -/
def Obligations.DecodeOfEncode : Prop :=
  ∀ (i : Instr) (rest : List Byte), i.wf = true → decode (encode i ++ rest) = .ok (i, (encode i).length)

/-- What decodes is well formed, and the bytes consumed are its encoding: no two byte sequences are one instruction. -/
def Obligations.EncodeOfDecode : Prop :=
  ∀ (bs : List Byte) (i : Instr) (n : Nat), decode bs = .ok (i, n) →
    i.wf = true ∧ encode i = bs.take n ∧ 1 ≤ n ∧ n ≤ 6

/-- Given enough bytes, exactly the encodings of 30_encoding.md rules R105, R106 and R111 (by 92_eei_decisions.md D7,
D8 and D21) do not decode. `reg` is bits 5..3 and `mod` bits 7..6 of the second byte. -/
def Obligations.UndefinedEncodingsExactly : Prop :=
  ∀ (b1 b2 : Byte) (rest : List Byte), 4 ≤ rest.length →
    ((∃ e, decode (b1 :: b2 :: rest) = .error e) ↔
      let reg := b2.toNat / 8 % 8
      let mod := b2.toNat / 64
      b1 ∈ [0x0F, 0xC0, 0xC1, 0xC8, 0xC9, 0xD6, 0xF1] ∨ (0x60 ≤ b1.toNat ∧ b1.toNat ≤ 0x6F)
        ∨ (b1 ∈ [0x82, 0x83] ∧ reg ∈ [1, 4, 6]) ∨ (b1 ∈ [0x8C, 0x8E] ∧ 4 ≤ reg) ∨ (b1 = 0x8E ∧ reg = 1)
        ∨ (b1 ∈ [0x8F, 0xC6, 0xC7] ∧ reg ≠ 0) ∨ (b1 ∈ [0xD0, 0xD1, 0xD2, 0xD3] ∧ reg = 6)
        ∨ (b1 ∈ [0xF6, 0xF7] ∧ reg = 1) ∨ (b1 = 0xFE ∧ 2 ≤ reg) ∨ (b1 = 0xFF ∧ reg = 7)
        ∨ (b1 ∈ [0x8D, 0xC4, 0xC5] ∧ mod = 3) ∨ (b1 = 0xFF ∧ (reg = 3 ∨ reg = 5) ∧ mod = 3)
        ∨ (b1 ∈ [0xD4, 0xD5] ∧ b2 ≠ 0x0A))

/-! ## The step -/

/-- A step acts on the state after the host's events: it fetches the bytes at CS:IP (IP wrapping, 92_eei_decisions.md D4,
log entry 20; memory as it is where no stored byte may still be queued), moves IP past the instruction and runs it; the
first fetch after a reset is no exception unless an NMI came before it. The boundary of 60_exceptions.md section 4 follows
every instruction but a prefix byte, which is a step of its own (log entry 5); then the step ends, which adds nothing where
no other master waits and no RESET is under way. -/
def Obligations.StepRunsDecoded : Prop :=
  ∀ (s : State) (i : Instr) (n : Nat),
    let u := s.takeInputs
    u.latches.halted = false → u.progress.repeating = none →
    (u.progress.freshReset = true → u.latches.nmiPending = false) → decode u.fetchWindow = .ok (i, n) →
    (u.stale = [] → (∀ a, u.kindAt a = .ram ∨ u.kindAt a = .rom) → u.fetchWindow
        = (List.range 6).map fun k => u.byteAt (phys u.segs.cs (u.ip + BitVec.ofNat 16 k)))
      ∧ (isPrefixByte i = true → step s = finishAnswer (exec i (u.fetched n)))
      ∧ (isPrefixByte i = false → (u.pre.rep = none ∨ isStringPrimitive i = true) →
          step s = finishAnswer (completeAnswer (exec i (u.fetched n))))
      ∧ (u.fetched n).ip = u.ip + BitVec.ofNat 16 n ∧ (u.fetched n).regs = u.regs
      ∧ (u.fetched n).segs = u.segs ∧ (u.fetched n).flags = u.flags ∧ (u.fetched n).pre = u.pre
      ∧ (u.fetched n).latches = u.latches ∧ (u.fetched n).progress.mid = true
      ∧ (u.fetched n).progress.freshReset = false
      ∧ (u.env.waiting = [] → (u.fetched n).mem = u.mem ∧ (u.fetched n).env = u.env)
      ∧ (u.progress.mid = false →
          (u.fetched n).progress.instrIp = u.ip ∧ (u.fetched n).progress.t0 = u.flags.tf)
      ∧ ∀ t : State, t.env.waiting = [] → t.env.cut = none → finishAnswer (.next t) = .next t

/-- Every instruction answers a next state in every state: none faults and none is refused (60_exceptions.md rule R354
and 20_memory.md rules R54 and R58: no access and no context is refused). The step stops where the spec's terminal state
`Undefined` is (92_eei_decisions.md D7 and D14), with bytes that do not decode and with a repeat prefix before an
instruction that is no string primitive and no further prefix; and where it stops, the CPU was not halted, no turn was left
to run, and the bytes fetched are such bytes; it never stops with a fault. `v` is the state that fetches: `u`, but that the
choice between an early NMI and the first fetch after reset (70_reset_and_hazards.md rule R391, log entry 11) draws once
before the fetch. -/
def Obligations.StepStopsExactlyWhereUndefined : Prop :=
  (∀ (i : Instr) (s : State), ∃ t, exec i s = .next t)
    ∧ (∀ s : State, (∃ t, step s = .next t) ∨ (∃ e, step s = .refused (.undefinedEncoding e))
        ∨ step s = .refused .repeatBeforeNonString)
    ∧ ∀ s : State,
      let u := s.takeInputs
      u.latches.halted = false → u.progress.repeating = none →
      (u.progress.freshReset = true → u.latches.nmiPending = false) →
      (∀ e, decode u.fetchWindow = .error e → step s = .refused (.undefinedEncoding e))
        ∧ (∀ i n, decode u.fetchWindow = .ok (i, n) → isPrefixByte i = false → isStringPrimitive i = false →
            u.pre.rep ≠ none → step s = .refused .repeatBeforeNonString)
    ∧ ∀ s : State,
      let u := s.takeInputs
      let v := if u.progress.freshReset && u.latches.nmiPending then u.setDraws (u.draws + 1) else u
      (∀ e, step s = .refused (.undefinedEncoding e) →
          u.latches.halted = false ∧ u.progress.repeating = none ∧ decode v.fetchWindow = .error e)
        ∧ (step s = .refused .repeatBeforeNonString →
          u.latches.halted = false ∧ u.progress.repeating = none ∧ u.pre.rep ≠ none
            ∧ ∃ i n, decode v.fetchWindow = .ok (i, n) ∧ isPrefixByte i = false ∧ isStringPrimitive i = false)

/-- What each event of the host does (92_eei_decisions.md section 3), and that the step acts on the state the events leave:
an NMI edge sets the latch (60_exceptions.md rule R359) and nothing else; the INTR and TEST levels are what the host says;
another master's write reaches RAM, and RAM only, where the bus is not locked, and waits where it is; RESET leaves what
70_reset_and_hazards.md rule R390 says (CS:IP by 92_eei_decisions.md D5; ResetState says it in full) and no lock, so that
the writes that waited are made; what comes within the step waits for it (log entry 14). The steps after find the events that were scripted for them. -/
def Obligations.HostEventsTakeEffect : Prop :=
  (∀ s : State,
      s.applyEvent .nmiEdge = s.setLatches { s.latches with nmiPending := true }
        ∧ (∀ high, s.applyEvent (.intrLevel high) = s.setEnv { s.env with intr := high })
        ∧ (∀ low, s.applyEvent (.testLevel low) = s.setEnv { s.env with testLow := low })
        ∧ (∀ w, s.busLocked = false → let t := s.applyEvent (.busWrite w)
            (s.kindAt w.addr.toNat = .ram → t.byteAt w.addr.toNat = w.value)
              ∧ SameBytesOutside [w.addr.toNat] s t ∧ SameRegsBut [] s t ∧ t.flags = s.flags ∧ SameControl s t)
        ∧ (∀ w, s.busLocked = true →
            s.applyEvent (.busWrite w) = s.setEnv { s.env with waiting := s.env.waiting ++ [[w]] })
        ∧ (let t := s.applyEvent .reset
           t.segs.cs = 0xFFFF ∧ t.ip = 0 ∧ t.flags.iF = false ∧ t.flags.tf = false
            ∧ t.latches = { nmiPending := false, inhibit := false, halted := false } ∧ t.pre = Prefixes.none
            ∧ t.progress.repeating = none ∧ t.progress.freshReset = true ∧ t.busLocked = false
            ∧ t.env = { s.env with waiting := [], cut := none }
            ∧ (s.env.waiting = [] → t.mem = s.mem ∧ t.stale = []))
        ∧ (∀ ws, s.applyEvent (.within ws) = s.setEnv { s.env with waiting := s.env.waiting ++ [ws] })
        ∧ ∀ n, s.applyEvent (.resetWithin n) = s.setEnv { s.env with cut := some n })
    ∧ (∀ (s : State) (es : List HostEvent) (rest : List (List HostEvent)), s.env.inputs = es :: rest →
        s.takeInputs = es.foldl State.applyEvent (s.setEnv { s.env with inputs := rest })
          ∧ s.takeInputs.env.inputs = rest
          ∧ step s = step (s.takeInputs.setEnv { s.takeInputs.env with inputs := [] :: rest }))
    ∧ ∀ s : State, s.env.inputs = [] → s.takeInputs = s

/-- The state after reset meets the invariant. -/
def Obligations.ResetMeetsInv : Prop := StepInv State.reset

/-- Every step from a state that meets the invariant gives a state that meets it. -/
def Obligations.StepKeepsInv : Prop := ∀ s t : State, StepInv s → step s = .next t → StepInv t

/-! ## Memory and operands -/

/-- What answers at an address decides what an access does (20_memory.md rule R61, 93_implementation_defined.md U16): RAM is
read and written; ROM is read, and a write to it is ignored; where there is nothing a read gives a free value and a write
is lost; a device answers a read, with the side effect that its scripted answer is taken, and is shown a write. The model
shows both to the host (log entry 4). An XCHG with a device reads it and then writes it. -/
def Obligations.MemoryKinds : Prop :=
  ∀ (s : State) (addr : Word), s.env.waiting = [] → s.env.cut = none →
    let a := phys (s.memSeg (.direct addr)) addr
    let al := s.regs.get8 .axAl
    let loads := fun (P : State → Byte → Prop) => Completes (.movAccMem .byte addr) s fun t =>
      P t (t.regs.get8 .axAl) ∧ t.mem = s.mem ∧ t.flags = s.flags ∧ SameRegsOutside .byte (.reg .axAl) s t
    let stores := fun (P : State → Prop) => Completes (.movMemAcc .byte addr) s fun t =>
      P t ∧ t.flags = s.flags ∧ t.regs = s.regs ∧ SameBytesOutside [a] s t
    let answers := fun b => ∀ b' bs, s.env.devIn = b' :: bs → b = b'
    (s.kindAt a = .ram → loads (fun t b => b = s.byteAt a ∧ t.env = s.env)
        ∧ stores fun t => t.byteAt a = al ∧ t.env = s.env)
      ∧ (s.kindAt a = .rom → loads (fun t b => b = s.byteAt a ∧ t.env = s.env)
          ∧ stores fun t => t.mem = s.mem ∧ t.env = s.env)
      ∧ (s.kindAt a = .absent → loads (fun t _ => t.env = s.env) ∧ stores fun t => t.mem = s.mem ∧ t.env = s.env)
      ∧ (s.kindAt a = .device →
          loads (fun t b => answers b
              ∧ t.env = { s.env with devIn := s.env.devIn.tail, busLog := s.env.busLog ++ [.memRead a b] })
            ∧ stores (fun t => t.mem = s.mem
              ∧ t.env = { s.env with busLog := s.env.busLog ++ [.memWrite a al] })
            ∧ ∀ reg, Completes (.xchgRmReg .byte (.mem (.direct addr)) reg) s fun t =>
                let b := t.regs.get8 reg
                answers b ∧ t.mem = s.mem ∧ t.env = { s.env with
                  devIn := s.env.devIn.tail
                  busLog := s.env.busLog ++ [.memRead a b, .memWrite a (s.regs.get8 reg)] })

/-- A word stored at seg:off, in RAM, is its low byte at seg:off and its high byte at the next offset modulo 2^16
(20_memory.md rules R55 to R57; the wraps are 92_eei_decisions.md D2 and D3), it reads back, and no other byte moves. -/
def Obligations.WordAccessLittleEndian : Prop :=
  ∀ (s : State) (sg off : Word) (v : Word), Plain s →
    let lo := (sg.toNat * 16 + off.toNat) % 2 ^ 20
    let hi := (sg.toNat * 16 + (off.toNat + 1) % 2 ^ 16) % 2 ^ 20
    let t := s.writeSeg sg off .word v
    (s.AllRam [lo, hi] → t.byteAt lo = loByte v ∧ t.byteAt hi = hiByte v ∧ t.readSeg sg off .word = v)
      ∧ s.readSeg sg off .word = joinBytes (s.byteAt hi) (s.byteAt lo)
      ∧ (Memory.wf s.mem → Memory.wf t.mem) ∧ SameBytesOutside [lo, hi] s t

/-- The effective address of each r/m form and the segment it uses: the override if there is one, else SS where BP is
the base, else DS (30_encoding.md rules R88 to R90). `disp` is 0, the sign-extended byte, or the word. -/
def Obligations.EffectiveAddressTable : Prop :=
  ∀ (s : State) (d : Disp) (disp addr : Word),
    disp = (match d with | .none => 0 | .d8 v => v.signExtend 16 | .d16 v => v) →
    s.memOff (.based .bxSi d) = s.regs.bx + s.regs.si + disp ∧ s.memOff (.based .bxDi d) = s.regs.bx + s.regs.di + disp
      ∧ s.memOff (.based .bpSi d) = s.regs.bp + s.regs.si + disp
      ∧ s.memOff (.based .bpDi d) = s.regs.bp + s.regs.di + disp
      ∧ s.memOff (.based .si d) = s.regs.si + disp ∧ s.memOff (.based .di d) = s.regs.di + disp
      ∧ s.memOff (.based .bp d) = s.regs.bp + disp ∧ s.memOff (.based .bx d) = s.regs.bx + disp
      ∧ s.memOff (.direct addr) = addr
      ∧ (∀ m sr, s.pre.segOvr = some sr → s.memSeg m = s.segs.get sr)
      ∧ (s.pre.segOvr = none →
          (∀ b, b = .bpSi ∨ b = .bpDi ∨ b = .bp → s.memSeg (.based b d) = s.segs.ss)
            ∧ (∀ b, b ≠ .bpSi → b ≠ .bpDi → b ≠ .bp → s.memSeg (.based b d) = s.segs.ds)
            ∧ s.memSeg (.direct addr) = s.segs.ds)

/-- The 8-bit registers are the halves of AX, CX, DX and BX; writing one leaves the other half and every other register
as it was, and writing a 16-bit register writes both halves and no other register. -/
def Obligations.ByteRegistersAreHalves : Prop :=
  ∀ (g : Regs) (v : Byte),
    g.get8 .axAl = loByte g.ax ∧ g.get8 .spAh = hiByte g.ax ∧ g.get8 .cxCl = loByte g.cx
      ∧ g.get8 .bpCh = hiByte g.cx ∧ g.get8 .dxDl = loByte g.dx ∧ g.get8 .siDh = hiByte g.dx
      ∧ g.get8 .bxBl = loByte g.bx ∧ g.get8 .diBh = hiByte g.bx
      ∧ ∀ r q : Reg, (g.set8 r v).get8 q = (if q = r then v else g.get8 q)
          ∧ (g.set8 r v).sp = g.sp ∧ (g.set8 r v).bp = g.bp ∧ (g.set8 r v).si = g.si ∧ (g.set8 r v).di = g.di
          ∧ ∀ x : Word, (g.set16 r x).get16 q = if q = r then x else g.get16 q

/-! ## Data transfer -/

/-- MOV in all its general-register and memory forms: the destination holds the source, no flag changes, and nothing
else does. -/
def Obligations.MovMovesSource : Prop :=
  ∀ s : State, Plain s →
    let moves := fun (i : Instr) (w : Width) (dst : Rm) (v : BitVec w.bits) =>
      Completes i s fun t => Holds s t w dst v ∧ t.flags = s.flags ∧ FrameOf w dst s t
    (∀ w rm reg, moves (.movRmReg w .fromReg rm reg) w rm (s.reg w reg))
      ∧ (∀ w rm reg, moves (.movRmReg w .toReg rm reg) w (.reg reg) (s.readRm w rm))
      ∧ (∀ v rm, moves (.movRmImm (.byte v) rm) .byte rm v) ∧ (∀ v rm, moves (.movRmImm (.word v) rm) .word rm v)
      ∧ (∀ v reg, moves (.movRegImm (.byte v) reg) .byte (.reg reg) v)
      ∧ (∀ v reg, moves (.movRegImm (.word v) reg) .word (.reg reg) v)
      ∧ (∀ w addr, moves (.movAccMem w addr) w (.reg .axAl) (s.readRm w (.mem (.direct addr))))
      ∧ (∀ w addr, moves (.movMemAcc w addr) w (.mem (.direct addr)) (s.reg w .axAl))
      ∧ (∀ rm sr, moves (.movRmSreg rm sr) .word rm (s.segs.get sr))

/-- MOV and POP to ES, SS and DS load that segment register only; a load of SS opens the inhibit window
(10_state.md rule R39), a load of ES or DS does not; POP moves SP by 2 and MOV moves no register. -/
def Obligations.SegmentLoads : Prop :=
  ∀ s : State, Plain s →
    let loads := fun (i : Instr) (sr : SReg) (v : Word) (sp : Word) =>
      Completes i s fun t => t.segs.get sr = v ∧ (∀ g, g ≠ sr → t.segs.get g = s.segs.get g)
        ∧ t.latches.inhibit = (decide (sr = .ss) || s.latches.inhibit)
        ∧ t.latches.nmiPending = s.latches.nmiPending ∧ t.latches.halted = s.latches.halted
        ∧ t.regs.sp = sp ∧ SameRegsBut [.spAh] s t ∧ t.ip = s.ip ∧ t.flags = s.flags ∧ SameBytesOutside [] s t
        ∧ t.pre = s.pre ∧ t.env = s.env
    (∀ rm, loads (.movEsRm rm) .es (s.readRm .word rm) s.regs.sp)
      ∧ (∀ rm, loads (.movSsRm rm) .ss (s.readRm .word rm) s.regs.sp)
      ∧ (∀ rm, loads (.movDsRm rm) .ds (s.readRm .word rm) s.regs.sp)
      ∧ loads .popEs .es (s.stackWord 0) (s.regs.sp + 2) ∧ loads .popSs .ss (s.stackWord 0) (s.regs.sp + 2)
      ∧ loads .popDs .ds (s.stackWord 0) (s.regs.sp + 2)

/-- PUSH of a register, a memory word, a segment register, and PUSHF. PUSH SP pushes the decremented SP; a memory
operand is read before SP changes (92_eei_decisions.md D34). PUSHF pushes the FLAGS image with its reserved bits
(40_data_transfer.md rule R150, D6; log entry 7). -/
def Obligations.PushStoresWord : Prop :=
  ∀ s : State, Plain s →
    (∀ r, r ≠ .spAh → Pushes (.pushR16 r) s (s.regs.get16 r) ∧ Pushes (.pushRm (.reg r)) s (s.regs.get16 r))
      ∧ Pushes (.pushR16 .spAh) s (s.regs.sp - 2) ∧ Pushes (.pushRm (.reg .spAh)) s (s.regs.sp - 2)
      ∧ (∀ m, Pushes (.pushRm (.mem m)) s (s.readRm .word (.mem m)))
      ∧ (∀ sr, Pushes (.pushSreg sr) s (s.segs.get sr)) ∧ Pushes .pushf s s.flags.image

/-- POP to a register or to memory: the destination takes the word at the top of the stack and SP rises by 2; POP SP
leaves the popped word in SP. -/
def Obligations.PopLoadsWord : Prop :=
  ∀ s : State, Plain s →
    let top := s.stackWord 0
    (∀ r i, i = .popR16 r ∨ i = .popRm (.reg r) →
        Completes i s fun t => t.regs.get16 r = top ∧ (r ≠ .spAh → t.regs.sp = s.regs.sp + 2) ∧ t.flags = s.flags
          ∧ SameRegsBut [r, .spAh] s t ∧ SameBytesOutside [] s t ∧ SameControl s t)
      ∧ (∀ m, Completes (.popRm (.mem m)) s fun t =>
          Holds s t .word (.mem m) top ∧ t.regs.sp = s.regs.sp + 2 ∧ t.flags = s.flags
            ∧ SameRegsBut [.spAh] s t ∧ SameBytesOutside (s.rmBytes .word (.mem m)) s t ∧ SameControl s t)

/-- The flag transfers: LAHF and PUSHF show each flag at its bit, SAHF and POPF load each flag from its bit and ignore
the reserved positions. Nothing is said of the reserved bits of an image. -/
def Obligations.FlagTransfers : Prop :=
  ∀ s : State,
    (Completes .lahf s fun t =>
        (let ah := t.regs.get8 .spAh
         ah.getLsbD 7 = s.flags.sf ∧ ah.getLsbD 6 = s.flags.zf ∧ ah.getLsbD 4 = s.flags.af
          ∧ ah.getLsbD 2 = s.flags.pf ∧ ah.getLsbD 0 = s.flags.cf)
        ∧ t.flags = s.flags ∧ FrameOf .byte (.reg .spAh) s t)
      ∧ (encode .sahf = [0x9E] ∧ Completes .sahf s fun t =>
          (let ah := s.regs.get8 .spAh
           t.flags = { s.flags with sf := ah.getLsbD 7, zf := ah.getLsbD 6, af := ah.getLsbD 4, pf := ah.getLsbD 2,
                                    cf := ah.getLsbD 0 })
          ∧ FrameRegs [] s t)
      ∧ (Plain s → Completes .popf s fun t =>
          (let v := s.stackWord 0
           t.flags = { cf := v.getLsbD 0, pf := v.getLsbD 2, af := v.getLsbD 4, zf := v.getLsbD 6, sf := v.getLsbD 7,
                       tf := v.getLsbD 8, iF := v.getLsbD 9, df := v.getLsbD 10, oF := v.getLsbD 11 })
          ∧ t.regs.sp = s.regs.sp + 2 ∧ FrameRegs [.spAh] s t)
      ∧ (let v := s.flags.image
         v.getLsbD 0 = s.flags.cf ∧ v.getLsbD 2 = s.flags.pf ∧ v.getLsbD 4 = s.flags.af ∧ v.getLsbD 6 = s.flags.zf
          ∧ v.getLsbD 7 = s.flags.sf ∧ v.getLsbD 8 = s.flags.tf ∧ v.getLsbD 9 = s.flags.iF
          ∧ v.getLsbD 10 = s.flags.df ∧ v.getLsbD 11 = s.flags.oF)

/-- XCHG exchanges its two operands, NOP changes nothing. -/
def Obligations.XchgExchanges : Prop :=
  ∀ s : State, Plain s →
    (∀ w rm reg, Completes (.xchgRmReg w rm reg) s fun t =>
        Holds s t w rm (s.reg w reg) ∧ t.reg w reg = s.readRm w rm ∧ t.flags = s.flags
          ∧ (∀ q, q ≠ reg → rm ≠ .reg q → t.reg w q = s.reg w q)
          ∧ (w = .byte → SameRegsBut [.axAl, .cxCl, .dxDl, .bxBl] s t)
          ∧ SameBytesOutside (s.rmBytes w rm) s t ∧ SameControl s t)
      ∧ (∀ i r, (i = .xchgAxCx ∧ r = .cxCl) ∨ i = .xchgAxDxBx r ∨ i = .xchgAxIndex r →
          Completes i s fun t => t.regs.ax = s.regs.get16 r ∧ t.regs.get16 r = s.regs.ax ∧ t.flags = s.flags
            ∧ FrameRegs [.axAl, r] s t)
      ∧ Completes .nop s fun t => t = s

/-- IN and OUT: the byte or the two bytes go between the accumulator and the port, low byte and lower port first. The fixed
port is zero-extended. What a port answers is the host's: a byte scripted for it is given, one for each byte read, and
without one the answer is free (log entry 12, DESIGN CHOICE). -/
def Obligations.PortTransfers : Prop :=
  ∀ s : State, s.env.cut = none →
    let inByte := fun (i : Instr) (p : Word) => Completes i s fun t =>
      ∃ b, t.regs.get8 .axAl = b
        ∧ t.env = { s.env with portIn := s.env.portIn.tail, busLog := s.env.busLog ++ [.ioRead p b] }
        ∧ (∀ b' bs, s.env.portIn = b' :: bs → b = b') ∧ SameRegsOutside .byte (.reg .axAl) s t
    let inWord := fun (i : Instr) (p : Word) => Completes i s fun t =>
      ∃ l h, t.regs.ax = joinBytes h l
        ∧ t.env = { s.env with
            portIn := s.env.portIn.tail.tail, busLog := s.env.busLog ++ [.ioRead p l, .ioRead (p + 1) h] }
        ∧ (∀ l' bs, s.env.portIn = l' :: bs → l = l') ∧ (∀ l' h' bs, s.env.portIn = l' :: h' :: bs → h = h')
        ∧ SameRegsOutside .word (.reg .axAl) s t
    let outByte := fun (i : Instr) (p : Word) => Completes i s fun t =>
      t.env = { s.env with busLog := s.env.busLog ++ [.ioWrite p (loByte s.regs.ax)] } ∧ t.regs = s.regs
    let outWord := fun (i : Instr) (p : Word) => Completes i s fun t =>
      t.env = { s.env with
          busLog := s.env.busLog ++ [.ioWrite p (loByte s.regs.ax), .ioWrite (p + 1) (hiByte s.regs.ax)] }
        ∧ t.regs = s.regs
    (∀ p : Byte, inByte (.inImm .byte p) (p.setWidth 16) ∧ inWord (.inImm .word p) (p.setWidth 16)
        ∧ outByte (.outImm .byte p) (p.setWidth 16) ∧ outWord (.outImm .word p) (p.setWidth 16))
      ∧ inByte (.inDx .byte) s.regs.dx ∧ inWord (.inDx .word) s.regs.dx ∧ outByte (.outDx .byte) s.regs.dx
      ∧ outWord (.outDx .word) s.regs.dx
      ∧ ∀ i w p t, i = .inImm w p ∨ i = .inDx w ∨ i = .outImm w p ∨ i = .outDx w → exec i s = .next t →
          t.flags = s.flags ∧ t.segs = s.segs ∧ t.ip = s.ip ∧ t.mem = s.mem ∧ t.pre = s.pre ∧ t.latches = s.latches
            ∧ t.progress = s.progress

/-- LEA stores the offset, XLAT the byte at BX + AL, LDS and LES a far pointer: the offset word at EA, the segment word
at EA + 2, both read with the segments in force before. -/
def Obligations.AddressAndPointerLoads : Prop :=
  ∀ (s : State) (reg : Reg) (m : MemRef), Plain s →
    let sg := s.memSeg m
    let ea := s.memOff m
    (Completes (.lea reg m) s fun t => t.regs.get16 reg = ea ∧ t.flags = s.flags ∧ FrameRegs [reg] s t)
      ∧ (Completes .xlat s fun t =>
          t.regs.get8 .axAl = s.byteAt (phys (s.segs.get (s.pre.segOvr.getD .ds))
              (BitVec.ofNat 16 (s.regs.bx.toNat + (s.regs.get8 .axAl).toNat)))
            ∧ t.flags = s.flags ∧ FrameOf .byte (.reg .axAl) s t)
      ∧ (Completes (.lds reg m) s fun t =>
          t.regs.get16 reg = s.readSeg sg ea .word ∧ t.segs.ds = s.readSeg sg (ea + 2) .word
            ∧ (∀ g, g ≠ SReg.ds → t.segs.get g = s.segs.get g) ∧ t.ip = s.ip ∧ t.flags = s.flags
            ∧ SameRegsBut [reg] s t ∧ SameBytesOutside [] s t ∧ SameHidden s t)
      ∧ (Completes (.les reg m) s fun t =>
          t.regs.get16 reg = s.readSeg sg ea .word ∧ t.segs.es = s.readSeg sg (ea + 2) .word
            ∧ (∀ g, g ≠ SReg.es → t.segs.get g = s.segs.get g) ∧ t.ip = s.ip ∧ t.flags = s.flags
            ∧ SameRegsBut [reg] s t ∧ SameBytesOutside [] s t ∧ SameHidden s t)

/-! ## Arithmetic -/

/-- ADD and ADC in all their forms: the sum, its six flags, and nothing else. PF and AF are the spec's own definitions
(92_eei_decisions.md D23). -/
def Obligations.AddAndAdcResult : Prop :=
  ∀ s : State, Plain s →
    ArithForms s .addRmReg .addRmImm .addAccImm (AddsInto s 0)
      ∧ ArithForms s .adcRmReg .adcRmImm .adcAccImm (AddsInto s s.flags.cf.toNat)

/-- SUB and SBB in all their forms: the difference, its six flags, and nothing else; CMP sets the flags of the difference
and writes no operand. PF and AF are the spec's own definitions (92_eei_decisions.md D23). -/
def Obligations.SubSbbAndCmpResult : Prop :=
  ∀ s : State, Plain s →
    ArithForms s .subRmReg .subRmImm .subAccImm (SubtractsFrom s 0)
      ∧ ArithForms s .sbbRmReg .sbbRmImm .sbbAccImm (SubtractsFrom s s.flags.cf.toNat)
      ∧ ArithForms s .cmpRmReg .cmpRmImm .cmpAccImm (Compares s)

/-- INC and DEC: one more or one less modulo 2^N; CF is kept, and OF, AF are as 41_arithmetic.md rules R167 and R177
spell them out. NEG: the two's complement, with the flags rule R179 spells out. -/
def Obligations.IncDecAndNegResult : Prop :=
  ∀ s : State, Plain s →
    let incs := fun (i : Instr) (w : Width) (rm : Rm) => Completes i s fun t => ∃ r : BitVec w.bits,
      let a := (s.readRm w rm).toNat
      r.toNat = (a + 1) % 2 ^ w.bits ∧ Holds s t w rm r ∧ SetsSzp t.flags r
        ∧ (t.flags.oF = true ↔ a = 2 ^ (w.bits - 1) - 1) ∧ (t.flags.af = true ↔ a % 16 = 15)
        ∧ SameFlagsBut [.pf, .af, .zf, .sf, .oF] s t ∧ FrameOf w rm s t
    let decs := fun (i : Instr) (w : Width) (rm : Rm) => Completes i s fun t => ∃ r : BitVec w.bits,
      let a := (s.readRm w rm).toNat
      r.toNat = (a + 2 ^ w.bits - 1) % 2 ^ w.bits ∧ Holds s t w rm r ∧ SetsSzp t.flags r
        ∧ (t.flags.oF = true ↔ a = 2 ^ (w.bits - 1)) ∧ (t.flags.af = true ↔ a % 16 = 0)
        ∧ SameFlagsBut [.pf, .af, .zf, .sf, .oF] s t ∧ FrameOf w rm s t
    (∀ w rm, incs (.incRm w rm) w rm ∧ decs (.decRm w rm) w rm)
      ∧ (∀ reg, incs (.incR16 reg) .word (.reg reg) ∧ decs (.decR16 reg) .word (.reg reg))
      ∧ ∀ w rm, Completes (.neg w rm) s fun t => ∃ r : BitVec w.bits,
          let a := (s.readRm w rm).toNat
          r.toNat = (2 ^ w.bits - a) % 2 ^ w.bits ∧ Holds s t w rm r ∧ SetsSzp t.flags r
            ∧ (t.flags.cf = true ↔ a ≠ 0) ∧ (t.flags.oF = true ↔ a = 2 ^ (w.bits - 1))
            ∧ (t.flags.af = true ↔ a % 16 ≠ 0) ∧ SameFlagsBut allStatus s t ∧ FrameOf w rm s t

/-- MUL and IMUL: the whole product, and CF = OF = 1 exactly when its high half matters; SF, ZF, AF and PF are free. -/
def Obligations.MultiplyResult : Prop :=
  ∀ (s : State) (rm : Rm), Plain s →
    let al := s.regs.get8 .axAl
    let ax := s.regs.ax
    (Completes (.mul .byte rm) s fun t => t.regs.ax.toNat = al.toNat * (s.readRm .byte rm).toNat
        ∧ (t.flags.cf = true ↔ 2 ^ 8 ≤ al.toNat * (s.readRm .byte rm).toNat) ∧ t.flags.oF = t.flags.cf
        ∧ SameFlagsBut allStatus s t ∧ FrameRegs [.axAl] s t)
      ∧ (Completes (.mul .word rm) s fun t =>
          t.regs.dx.toNat * 2 ^ 16 + t.regs.ax.toNat = ax.toNat * (s.readRm .word rm).toNat
            ∧ (t.flags.cf = true ↔ 2 ^ 16 ≤ ax.toNat * (s.readRm .word rm).toNat) ∧ t.flags.oF = t.flags.cf
            ∧ SameFlagsBut allStatus s t ∧ FrameRegs [.axAl, .dxDl] s t)
      ∧ (Completes (.imul .byte rm) s fun t => t.regs.ax.toInt = al.toInt * (s.readRm .byte rm).toInt
          ∧ (t.flags.cf = true ↔ ¬ FitsSigned 8 (al.toInt * (s.readRm .byte rm).toInt)) ∧ t.flags.oF = t.flags.cf
          ∧ SameFlagsBut allStatus s t ∧ FrameRegs [.axAl] s t)
      ∧ (Completes (.imul .word rm) s fun t =>
          t.regs.dx.toInt * 2 ^ 16 + t.regs.ax.toNat = ax.toInt * (s.readRm .word rm).toInt
            ∧ (t.flags.cf = true ↔ ¬ FitsSigned 16 (ax.toInt * (s.readRm .word rm).toInt)) ∧ t.flags.oF = t.flags.cf
            ∧ SameFlagsBut allStatus s t ∧ FrameRegs [.axAl, .dxDl] s t)

/-- DIV and IDIV when the divisor is not 0 and the quotient fits. DIV: unsigned quotient and remainder. IDIV: quotient
truncated towards 0, remainder with the sign of the dividend; the most negative quotient fits only if IDIV_ACCEPTS_MIN
(92_eei_decisions.md D10). The six status flags are free. -/
def Obligations.DivAndIdivResult : Prop :=
  ∀ (s : State) (rm : Rm), Plain s →
    (∀ q r : Nat,
      (∀ d, d = (s.readRm .byte rm).toNat → s.regs.ax.toNat = q * d + r → r < d → q < 2 ^ 8 →
          Completes (.div .byte rm) s fun t => (t.regs.get8 .axAl).toNat = q ∧ (t.regs.get8 .spAh).toNat = r
            ∧ SameFlagsBut allStatus s t ∧ FrameRegs [.axAl] s t)
        ∧ (∀ d, d = (s.readRm .word rm).toNat → s.regs.dx.toNat * 2 ^ 16 + s.regs.ax.toNat = q * d + r → r < d →
            q < 2 ^ 16 →
            Completes (.div .word rm) s fun t => t.regs.ax.toNat = q ∧ t.regs.dx.toNat = r
              ∧ SameFlagsBut allStatus s t ∧ FrameRegs [.axAl, .dxDl] s t))
      ∧ ∀ q r : Int,
        let exact := fun n d : Int => n = q * d + r ∧ r.natAbs < d.natAbs ∧ (r ≠ 0 → (r < 0 ↔ n < 0))
        let fits := fun k : Nat => -2 ^ (k - 1) < q ∧ q < 2 ^ (k - 1) ∨ q = -2 ^ (k - 1) ∧ Config.idivAcceptsMin = true
        (exact s.regs.ax.toInt (s.readRm .byte rm).toInt → fits 8 →
            Completes (.idiv .byte rm) s fun t => (t.regs.get8 .axAl).toInt = q ∧ (t.regs.get8 .spAh).toInt = r
              ∧ SameFlagsBut allStatus s t ∧ FrameRegs [.axAl] s t)
          ∧ (exact (s.regs.dx.toInt * 2 ^ 16 + s.regs.ax.toNat) (s.readRm .word rm).toInt → fits 16 →
              Completes (.idiv .word rm) s fun t => t.regs.ax.toInt = q ∧ t.regs.dx.toInt = r
                ∧ SameFlagsBut allStatus s t ∧ FrameRegs [.axAl, .dxDl] s t)

/-- DIV and IDIV by 0, or with a quotient that does not fit, enter type 0 (60_exceptions.md rule R352): the saved IP is
that of the next instruction, AX and DX keep their values (92_eei_decisions.md D9), and the six status flags are free,
the same in the pushed image and afterwards. `q8` and `q16` are the signed quotients truncated towards 0; the most
negative one is an error only if IDIV_ACCEPTS_MIN is false (D10). -/
def Obligations.DivideErrorEnters : Prop :=
  ∀ (s : State) (rm : Rm) (i : Instr), Plain s →
    let q8 := Int.tdiv s.regs.ax.toInt (s.readRm .byte rm).toInt
    let q16 := Int.tdiv (s.regs.dx.toInt * 2 ^ 16 + s.regs.ax.toNat) (s.readRm .word rm).toInt
    (∃ w, (i = .div w rm ∨ i = .idiv w rm) ∧ s.readRm w rm = 0#w.bits)
      ∨ (i = .div .byte rm ∧ 2 ^ 8 * (s.readRm .byte rm).toNat ≤ s.regs.ax.toNat)
      ∨ (i = .div .word rm ∧ 2 ^ 16 * (s.readRm .word rm).toNat ≤ s.regs.dx.toNat * 2 ^ 16 + s.regs.ax.toNat)
      ∨ (i = .idiv .byte rm ∧ (2 ^ 7 ≤ q8 ∨ q8 < -2 ^ 7 ∨ q8 = -2 ^ 7 ∧ Config.idivAcceptsMin = false))
      ∨ (i = .idiv .word rm ∧ (2 ^ 15 ≤ q16 ∨ q16 < -2 ^ 15 ∨ q16 = -2 ^ 15 ∧ Config.idivAcceptsMin = false)) →
    Completes i s fun t => ∃ f : Flags, SameFlagsBut allStatus s (s.setFlags f)
      ∧ Entered 0 s.ip (s.setFlags f) t ∧ t.regs.ax = s.regs.ax ∧ t.regs.dx = s.regs.dx ∧ t.env = s.env

/-- AAA, AAS, DAA and DAS by the spec's algorithms (92_eei_decisions.md D22); AAM divides AL by ten, AAD multiplies AH by
ten and adds (D21, 93_implementation_defined.md G7). The flags the spec calls undefined are free. -/
def Obligations.DecimalAdjustments : Prop :=
  ∀ s : State,
    let al := (s.regs.get8 .axAl).toNat
    let ah := (s.regs.get8 .spAh).toNat
    let low : Prop := 9 < al % 16 ∨ s.flags.af = true
    let high : Prop := 0x99 < al ∨ s.flags.cf = true
    let ascii := fun (i : Instr) (d h : Nat) => Completes i s fun t =>
      (low → (t.regs.get8 .axAl).toNat = (al + d) % 16 ∧ (t.regs.get8 .spAh).toNat = (ah + h) % 256)
        ∧ (¬ low → (t.regs.get8 .axAl).toNat = al % 16 ∧ (t.regs.get8 .spAh).toNat = ah)
        ∧ (t.flags.af = true ↔ low) ∧ (t.flags.cf = true ↔ low) ∧ SameFlagsBut allStatus s t
        ∧ FrameRegs [.axAl] s t
    let packed := fun (i : Instr) (d6 d60 : Nat) => Completes i s fun t => ∃ k6 k60 : Nat,
      (low → k6 = d6) ∧ (¬ low → k6 = 0) ∧ (high → k60 = d60) ∧ (¬ high → k60 = 0)
        ∧ (t.regs.get8 .axAl).toNat = (al + k6 + k60) % 256 ∧ SetsSzp t.flags (t.regs.get8 .axAl)
        ∧ (t.flags.af = true ↔ low) ∧ (t.flags.cf = true ↔ high) ∧ SameFlagsBut allStatus s t
        ∧ FrameOf .byte (.reg .axAl) s t
    ascii .aaa 6 1 ∧ ascii .aas 250 255 ∧ packed .daa 0x06 0x60 ∧ packed .das 0xFA 0xA0
      ∧ (Completes .aam s fun t => (t.regs.get8 .spAh).toNat = al / 10 ∧ (t.regs.get8 .axAl).toNat = al % 10
          ∧ SetsSzp t.flags (t.regs.get8 .axAl) ∧ SameFlagsBut allStatus s t ∧ FrameRegs [.axAl] s t)
      ∧ (Completes .aad s fun t => t.regs.get8 .spAh = 0 ∧ (t.regs.get8 .axAl).toNat = (al + 10 * ah) % 256
          ∧ SetsSzp t.flags (t.regs.get8 .axAl) ∧ SameFlagsBut allStatus s t ∧ FrameRegs [.axAl] s t)

/-- CBW and CWD: the sign of AL through AH, the sign of AX through DX; no flag changes. -/
def Obligations.SignExtensions : Prop :=
  ∀ s : State,
    (encode .cbw = [0x98] ∧ Completes .cbw s fun t =>
        t.regs.get8 .spAh = (if (s.regs.get8 .axAl).getLsbD 7 then 0xFF else 0x00)
          ∧ t.regs.ax.toInt = (s.regs.get8 .axAl).toInt ∧ t.flags = s.flags ∧ FrameRegs [.axAl] s t)
      ∧ (encode .cwd = [0x99] ∧ Completes .cwd s fun t =>
          t.regs.dx = (if s.regs.ax.getLsbD 15 then 0xFFFF else 0x0000)
            ∧ t.regs.dx.toInt * 2 ^ 16 + t.regs.ax.toNat = s.regs.ax.toInt ∧ t.flags = s.flags
            ∧ FrameRegs [.dxDl] s t)

/-! ## Logic, shifts and rotates -/

/-- AND, OR, XOR and TEST in all their forms: bit by bit, with the logic flags. NOT: bit by bit, no flag changed. -/
def Obligations.LogicResult : Prop :=
  ∀ s : State, Plain s →
    LogicForms s .andRmReg .andRmImm .andAccImm (CombinesBits s fun a b => a && b)
      ∧ LogicForms s .orRmReg .orRmImm .orAccImm (CombinesBits s fun a b => a || b)
      ∧ LogicForms s .xorRmReg .xorRmImm .xorAccImm (CombinesBits s fun a b => a != b)
      ∧ (∀ w rm reg, TestsBits s (.testRmReg w rm reg) w (s.readRm w rm) (s.reg w reg))
      ∧ (∀ v rm, TestsBits s (.testRmImm (.byte v) rm) .byte (s.readRm .byte rm) v)
      ∧ (∀ v rm, TestsBits s (.testRmImm (.word v) rm) .word (s.readRm .word rm) v)
      ∧ (∀ v, TestsBits s (.testAccImm (.byte v)) .byte (s.reg .byte .axAl) v)
      ∧ (∀ v, TestsBits s (.testAccImm (.word v)) .word (s.reg .word .axAl) v)
      ∧ ∀ w rm, Completes (.not w rm) s fun t => ∃ r : BitVec w.bits,
          (∀ k, k < w.bits → r.getLsbD k = !(s.readRm w rm).getLsbD k) ∧ Holds s t w rm r ∧ t.flags = s.flags
            ∧ FrameOf w rm s t

/-- SHL, SHR and SAR by a count of 1, or of all of CL: multiplication by 2^count, unsigned and signed division by 2^count;
CF the last bit shifted out, free for SHL and SHR by N or more; OF defined for a count of 1; AF free. A count of 0 changes
nothing (92_eei_decisions.md D29). -/
def Obligations.ShiftResult : Prop :=
  ∀ (s : State) (w : Width) (v : Count) (rm : Rm) (c : Nat), Plain s →
    c = (match v with | .one => 1 | .cl => (s.regs.get8 .cxCl).toNat) →
    (c = 0 → ∀ i, i = .shl w v rm ∨ i = .shr w v rm ∨ i = .sar w v rm → exec i s = .next s)
      ∧ (c ≠ 0 →
        Shifts s (.shl w v rm) w rm allStatus (fun a _ r f =>
            r.toNat = a.toNat * 2 ^ c % 2 ^ w.bits ∧ SetsSzp f r ∧ (c < w.bits → f.cf = a.getLsbD (w.bits - c))
              ∧ (c = 1 → f.oF = (r.msb != f.cf)))
          ∧ Shifts s (.shr w v rm) w rm allStatus (fun a _ r f =>
              r.toNat = a.toNat / 2 ^ c ∧ SetsSzp f r ∧ (c < w.bits → f.cf = a.getLsbD (c - 1))
                ∧ (c = 1 → f.oF = a.msb))
          ∧ Shifts s (.sar w v rm) w rm allStatus (fun a _ r f =>
              r.toInt = a.toInt / 2 ^ c ∧ SetsSzp f r ∧ (f.cf = true ↔ a.toInt / 2 ^ (c - 1) % 2 = 1)
                ∧ (c = 1 → f.oF = false)))

/-- ROL and ROR rotate N bits, RCL and RCR the N + 1 bits of CF:E; SF, ZF, AF and PF keep their values; OF is defined for a
count of 1. A count of 0 changes nothing (92_eei_decisions.md D29). -/
def Obligations.RotateResult : Prop :=
  ∀ (s : State) (w : Width) (v : Count) (rm : Rm) (c : Nat), Plain s →
    c = (match v with | .one => 1 | .cl => (s.regs.get8 .cxCl).toNat) →
    (c = 0 → ∀ i, i = .rol w v rm ∨ i = .ror w v rm ∨ i = .rcl w v rm ∨ i = .rcr w v rm → exec i s = .next s)
      ∧ (c ≠ 0 →
        Shifts s (.rol w v rm) w rm [.cf, .oF] (fun a _ r f =>
            r = a.rotateLeft c ∧ f.cf = r.getLsbD 0 ∧ (c = 1 → f.oF = (r.msb != f.cf)))
          ∧ Shifts s (.ror w v rm) w rm [.cf, .oF] (fun a _ r f =>
              r = a.rotateRight c ∧ f.cf = r.msb ∧ (c = 1 → f.oF = (r.msb != r.getLsbD (w.bits - 2))))
          ∧ Shifts s (.rcl w v rm) w rm [.cf, .oF] (fun a cf r f =>
              BitVec.ofBool f.cf ++ r = (BitVec.ofBool cf ++ a).rotateLeft c ∧ (c = 1 → f.oF = (r.msb != f.cf)))
          ∧ Shifts s (.rcr w v rm) w rm [.cf, .oF] (fun a cf r f =>
              BitVec.ofBool f.cf ++ r = (BitVec.ofBool cf ++ a).rotateRight c
                ∧ (c = 1 → f.oF = (r.msb != r.getLsbD (w.bits - 2)))))

/-! ## Strings -/

/-- One element of each string primitive without a repeat prefix, with what it stores going to RAM. The source's segment
may be overridden, that of the destination may not. -/
def Obligations.StringElement : Prop :=
  ∀ (s : State) (w : Width), Plain s → s.pre.rep = none →
    let src := s.readSeg (s.segs.get (s.pre.segOvr.getD .ds)) s.regs.si w
    let dst := s.readSeg s.segs.es s.regs.di w
    let as := accessBytes s.segs.es s.regs.di w
    let k := elementStep s.flags.df w
    (Completes (.movs w) s fun t => (s.AllRam as → t.readSeg s.segs.es s.regs.di w = src) ∧ t.regs.si = s.regs.si + k
        ∧ t.regs.di = s.regs.di + k ∧ t.flags = s.flags
        ∧ SameBytesOutside as s t ∧ StringFrame s t [.siDh, .diBh])
      ∧ (Completes (.cmps w) s fun t => (∃ r : BitVec w.bits,
            (r.toNat : Int) = (src.toNat - dst.toNat : Int) % 2 ^ w.bits ∧ SubFlags t.flags src dst 0 r)
          ∧ SameFlagsBut allStatus s t ∧ t.regs.si = s.regs.si + k ∧ t.regs.di = s.regs.di + k
          ∧ SameBytesOutside [] s t ∧ StringFrame s t [.siDh, .diBh])
      ∧ (Completes (.scas w) s fun t => (∃ r : BitVec w.bits,
            (r.toNat : Int) = ((s.reg w .axAl).toNat - dst.toNat : Int) % 2 ^ w.bits
              ∧ SubFlags t.flags (s.reg w .axAl) dst 0 r)
          ∧ SameFlagsBut allStatus s t ∧ t.regs.di = s.regs.di + k ∧ SameBytesOutside [] s t
          ∧ StringFrame s t [.diBh])
      ∧ (Completes (.lods w) s fun t => t.reg w .axAl = src ∧ (w = .byte → t.regs.get8 .spAh = s.regs.get8 .spAh)
          ∧ t.regs.si = s.regs.si + k ∧ t.flags = s.flags ∧ SameBytesOutside [] s t
          ∧ StringFrame s t [.axAl, .siDh])
      ∧ (Completes (.stos w) s fun t => (s.AllRam as → t.readSeg s.segs.es s.regs.di w = s.reg w .axAl)
          ∧ t.regs.di = s.regs.di + k ∧ t.flags = s.flags ∧ SameBytesOutside as s t
          ∧ StringFrame s t [.diBh])

/-- One turn of a repeated string instruction: with CX = 0 nothing is done; else it does what the unrepeated element
does, CX falls by one with no flag changed, and a further turn follows unless CX is now 0 or, for CMPS and SCAS, ZF
differs from the z of the prefix. -/
def Obligations.RepeatedTurn : Prop :=
  ∀ (s : State) (p : InProgress) (k : RepKind), p ≠ .wait → s.pre.rep = some k →
    let compares : Prop := ∃ w, p = .cmps w ∨ p = .scas w
    (s.regs.cx = 0 → exec p.instr s = .next (s.setProgress { s.progress with repeating := none }))
      ∧ (s.regs.cx ≠ 0 → Completes p.instr (s.setPre { s.pre with rep := none }) fun u =>
          Completes p.instr s fun t =>
            t.regs.cx = s.regs.cx - 1 ∧ SameRegsBut [.cxCl] u t ∧ t.mem = u.mem ∧ t.flags = u.flags
              ∧ t.segs = s.segs ∧ t.ip = s.ip ∧ t.pre = s.pre ∧ t.latches = s.latches ∧ t.env = u.env
              ∧ (t.progress.repeating = none ↔
                  t.regs.cx = 0 ∨ (compares ∧ t.flags.zf ≠ (match k with | .repnz => false | .repz => true)))
              ∧ (t.progress.repeating = none ∨ t.progress.repeating = some p)
              ∧ t.progress.instrIp = s.progress.instrIp ∧ t.progress.t0 = s.progress.t0)

/-- REP STOSB run to its end: from the turn before the first of n elements, with nothing pending, n steps (one for each
element: log entry 6, DEDUCED) fill the n bytes from ES:DI upward, where they are RAM, with AL and leave CX = 0 and DI past
them; every other byte, register and flag, the latches and the host's side are as they were, and the prefixes are gone. -/
def Obligations.RepStosbFills : Prop :=
  ∀ (n : Nat) (s : State), Plain s → Quiet s → s.latches.inhibit = false → s.latches.halted = false →
    s.progress.freshReset = false → s.progress.t0 = false → s.pre.rep ≠ none →
    s.progress.repeating = some (.stos .byte) → s.flags.df = false → s.regs.cx = BitVec.ofNat 16 n → 0 < n →
    n < 2 ^ 16 →
    let at' := fun i : Nat => phys s.segs.es (s.regs.di + BitVec.ofNat 16 i)
    ∃ t, stepsTo n s t ∧ t.regs.cx = 0 ∧ t.regs.di = s.regs.di + BitVec.ofNat 16 n ∧ t.progress.repeating = none
      ∧ t.ip = s.ip ∧ t.flags = s.flags ∧ t.segs = s.segs ∧ SameRegsBut [.cxCl, .diBh] s t
      ∧ (∀ i, i < n → s.kindAt (at' i) = .ram → t.byteAt (at' i) = s.regs.get8 .axAl)
      ∧ SameBytesOutside ((List.range n).map at') s t
      ∧ t.latches = s.latches ∧ t.env = s.env ∧ t.pre = Prefixes.none ∧ t.progress.mid = false

/-! ## Control transfer -/

/-- The conditional jumps on one flag: their encodings and when they are taken. -/
def Obligations.SingleFlagJumps : Prop :=
  ∀ (s : State) (d : Byte),
    let jumps := fun (i : Instr) (op : Byte) (c : Prop) => encode i = [op, d] ∧ JumpsWhen i s c d s.regs.cx
    jumps (.jo d) 0x70 (s.flags.oF = true) ∧ jumps (.jno d) 0x71 (s.flags.oF = false)
      ∧ jumps (.jb d) 0x72 (s.flags.cf = true) ∧ jumps (.jnb d) 0x73 (s.flags.cf = false)
      ∧ jumps (.je d) 0x74 (s.flags.zf = true) ∧ jumps (.jne d) 0x75 (s.flags.zf = false)
      ∧ jumps (.js d) 0x78 (s.flags.sf = true) ∧ jumps (.jns d) 0x79 (s.flags.sf = false)
      ∧ jumps (.jp d) 0x7A (s.flags.pf = true) ∧ jumps (.jnp d) 0x7B (s.flags.pf = false)

/-- The conditional jumps on two or three flags: their encodings and when they are taken. -/
def Obligations.ComparisonJumps : Prop :=
  ∀ (s : State) (d : Byte),
    let jumps := fun (i : Instr) (op : Byte) (c : Prop) => encode i = [op, d] ∧ JumpsWhen i s c d s.regs.cx
    jumps (.jbe d) 0x76 (s.flags.cf = true ∨ s.flags.zf = true)
      ∧ jumps (.jnbe d) 0x77 (s.flags.cf = false ∧ s.flags.zf = false)
      ∧ jumps (.jl d) 0x7C (s.flags.sf ≠ s.flags.oF) ∧ jumps (.jnl d) 0x7D (s.flags.sf = s.flags.oF)
      ∧ jumps (.jle d) 0x7E (s.flags.zf = true ∨ s.flags.sf ≠ s.flags.oF)
      ∧ jumps (.jnle d) 0x7F (s.flags.zf = false ∧ s.flags.sf = s.flags.oF)

/-- After CMP, in every form, each condition reads as its relation of the two operands: above and below unsigned, greater
and less signed, equal (44_control_transfer.md rules R280 and R297, 00_scope.md rule R12). `a` is the destination operand
of the CMP and `b` the source. -/
def Obligations.ConditionsAfterCompare : Prop :=
  ∀ s : State, ArithForms s .cmpRmReg .cmpRmImm .cmpAccImm fun i w dst b =>
    let a := s.readRm w dst
    Completes i s fun t => ∀ d : Byte,
      let jumps := fun (j : Instr) (c : Prop) => JumpsWhen j t c d t.regs.cx
      jumps (.jb d) (a.toNat < b.toNat) ∧ jumps (.jnb d) (b.toNat ≤ a.toNat)
        ∧ jumps (.jbe d) (a.toNat ≤ b.toNat) ∧ jumps (.jnbe d) (b.toNat < a.toNat)
        ∧ jumps (.jl d) (a.toInt < b.toInt) ∧ jumps (.jnl d) (b.toInt ≤ a.toInt)
        ∧ jumps (.jle d) (a.toInt ≤ b.toInt) ∧ jumps (.jnle d) (b.toInt < a.toInt)
        ∧ jumps (.je d) (a = b) ∧ jumps (.jne d) (a ≠ b)

/-- LOOP, LOOPZ and LOOPNZ count CX down and jump on the new CX (and ZF); JCXZ jumps on CX = 0 and leaves CX. No flag
changes. -/
def Obligations.LoopsAndJcxz : Prop :=
  ∀ (s : State) (d : Byte),
    encode (.loop d) = [0xE2, d] ∧ encode (.loopz d) = [0xE1, d] ∧ encode (.loopnz d) = [0xE0, d]
      ∧ encode (.jcxz d) = [0xE3, d]
      ∧ JumpsWhen (.loop d) s (s.regs.cx - 1 ≠ 0) d (s.regs.cx - 1)
      ∧ JumpsWhen (.loopz d) s (s.regs.cx - 1 ≠ 0 ∧ s.flags.zf = true) d (s.regs.cx - 1)
      ∧ JumpsWhen (.loopnz d) s (s.regs.cx - 1 ≠ 0 ∧ s.flags.zf = false) d (s.regs.cx - 1)
      ∧ JumpsWhen (.jcxz d) s (s.regs.cx = 0) d s.regs.cx

/-- Each form of JMP, with the encodings of the direct ones: the new CS:IP, with SP, memory and all else as it was. A taken
transfer empties the queue (20_memory.md rule R75; log entry 10). -/
def Obligations.JmpTransfers : Prop :=
  ∀ s : State, Plain s →
    let goes := fun (i : Instr) (cs ip : Word) => Completes i s fun t =>
      Transfers s t cs ip s.regs.sp ∧ SameBytesOutside [] s t
    (∀ d, encode (.jmpNear d) = [0xE9, loByte d, hiByte d] ∧ goes (.jmpNear d) s.segs.cs (s.ip + d))
      ∧ (∀ d, encode (.jmpShort d) = [0xEB, d] ∧ goes (.jmpShort d) s.segs.cs (s.ip + d.signExtend 16))
      ∧ (∀ off sgm, encode (.jmpFar off sgm) = [0xEA, loByte off, hiByte off, loByte sgm, hiByte sgm]
          ∧ goes (.jmpFar off sgm) sgm off)
      ∧ (∀ rm, goes (.jmpRm rm) s.segs.cs (s.readRm .word rm))
      ∧ ∀ m, goes (.jmpFarMem m) (s.readSeg (s.memSeg m) (s.memOff m + 2) .word)
          (s.readSeg (s.memSeg m) (s.memOff m) .word)

/-- Each form of CALL: the return address on the stack, if that is RAM (IP, and above it CS for a far call:
92_eei_decisions.md D20), the new CS:IP read before the pushes (D34), and no other byte changed. -/
def Obligations.CallPushesReturn : Prop :=
  ∀ s : State, Plain s →
    let first := accessBytes s.segs.ss (s.regs.sp - 2) .word
    let both := first ++ accessBytes s.segs.ss (s.regs.sp - 4) .word
    let near := fun (i : Instr) (ip : Word) => Completes i s fun t =>
      Transfers s t s.segs.cs ip (s.regs.sp - 2) ∧ (s.AllRam first → t.stackWord 0 = s.ip)
        ∧ SameBytesOutside first s t
    let far := fun (i : Instr) (cs ip : Word) => Completes i s fun t =>
      Transfers s t cs ip (s.regs.sp - 4) ∧ (s.AllRam both → t.stackWord 0 = s.ip ∧ t.stackWord 2 = s.segs.cs)
        ∧ SameBytesOutside both s t
    (∀ d, near (.callNear d) (s.ip + d)) ∧ (∀ rm, near (.callRm rm) (s.readRm .word rm))
      ∧ (∀ off sgm, far (.callFar off sgm) sgm off)
      ∧ ∀ m, far (.callFarMem m) (s.readSeg (s.memSeg m) (s.memOff m + 2) .word)
          (s.readSeg (s.memSeg m) (s.memOff m) .word)

/-- Each form of RET: IP, and CS for a far return, from the stack, then the immediate added to SP. -/
def Obligations.RetPopsReturn : Prop :=
  ∀ (s : State) (n : Word), Plain s →
    let goes := fun (i : Instr) (cs ip sp : Word) => Completes i s fun t =>
      Transfers s t cs ip sp ∧ SameBytesOutside [] s t
    encode .retNear = [0xC3] ∧ encode (.retNearImm n) = [0xC2, loByte n, hiByte n] ∧ encode .retFar = [0xCB]
      ∧ encode (.retFarImm n) = [0xCA, loByte n, hiByte n]
      ∧ goes .retNear s.segs.cs (s.stackWord 0) (s.regs.sp + 2)
      ∧ goes (.retNearImm n) s.segs.cs (s.stackWord 0) (s.regs.sp + 2 + n)
      ∧ goes .retFar (s.stackWord 2) (s.stackWord 0) (s.regs.sp + 4)
      ∧ goes (.retFarImm n) (s.stackWord 2) (s.stackWord 0) (s.regs.sp + 4 + n)

/-- The one entry sequence, whatever the type and the saved IP (60_exceptions.md rule R365; the order of its steps is
92_eei_decisions.md D26): FLAGS, CS and IP on the stack, IF and TF cleared, CS:IP from the vector table, all else kept.
INT n, INT 3 and INTO with OF = 1 enter their type with the IP of the next instruction; INTO with OF = 0 changes nothing
(44_control_transfer.md rules R303 to R305). -/
def Obligations.InterruptEntryAndSoftwareInterrupts : Prop :=
  ∀ s : State, Plain s →
    (∀ type savedIp, Entered type savedIp s (s.interruptEntry type savedIp)
        ∧ (s.interruptEntry type savedIp).env = s.env ∧ (Memory.wf s.mem → Memory.wf (s.interruptEntry type savedIp).mem))
      ∧ (∀ n, Completes (.int n) s fun t => Entered n s.ip s t ∧ t.env = s.env)
      ∧ (Completes .int3 s fun t => Entered 3 s.ip s t ∧ t.env = s.env)
      ∧ (s.flags.oF = true → Completes .into s fun t => Entered 4 s.ip s t ∧ t.env = s.env)
      ∧ (s.flags.oF = false → exec .into s = .next s)

/-- IRET pops IP, CS and all nine flags (44_control_transfer.md rule R308). Right after any interrupt entry whose stack is
RAM it restores the registers, the segment registers and all nine flags, and goes on at the saved IP: IF and TF come back
as they were (60_exceptions.md rule R368). -/
def Obligations.IretPopsAndUndoesEntry : Prop :=
  ∀ s : State, Plain s →
    (Completes .iret s fun t =>
      t.ip = s.stackWord 0 ∧ t.segs.cs = s.stackWord 2 ∧ t.regs.sp = s.regs.sp + 6
        ∧ (let v := s.stackWord 4
           t.flags = { cf := v.getLsbD 0, pf := v.getLsbD 2, af := v.getLsbD 4, zf := v.getLsbD 6, sf := v.getLsbD 7,
                       tf := v.getLsbD 8, iF := v.getLsbD 9, df := v.getLsbD 10, oF := v.getLsbD 11 })
        ∧ (∀ g, g ≠ SReg.cs → t.segs.get g = s.segs.get g) ∧ SameRegsBut [.spAh] s t ∧ SameBytesOutside [] s t
        ∧ t.stale = [] ∧ SameHidden s t)
      ∧ ∀ type savedIp, s.AllRam (frameBytes s) → Completes .iret (s.interruptEntry type savedIp) fun t =>
          t.regs = s.regs ∧ t.segs = s.segs ∧ t.flags = s.flags ∧ t.ip = savedIp

/-! ## Processor control -/

/-- CLC, CMC, STC, CLD, STD and CLI: encoding, the one flag each writes, and nothing else; after CLI with no NMI pending no
external interrupt is taken. -/
def Obligations.FlagInstructions : Prop :=
  ∀ s : State,
    let sets := fun (i : Instr) (op : Byte) (f : Flags) => encode i = [op] ∧
      Completes i s fun t => t.flags = f ∧ FrameRegs [] s t
    sets .clc 0xF8 { s.flags with cf := false } ∧ sets .cmc 0xF5 { s.flags with cf := !s.flags.cf }
      ∧ sets .stc 0xF9 { s.flags with cf := true } ∧ sets .cld 0xFC { s.flags with df := false }
      ∧ sets .std 0xFD { s.flags with df := true } ∧ sets .cli 0xFA { s.flags with iF := false }
      ∧ Completes .cli s fun t => t.latches.nmiPending = false → ∀ savedIp, t.takeExternal savedIp = t

/-- STI sets IF and opens the inhibit window, even when IF was 1 (92_eei_decisions.md D32). HLT halts, and shows the
host so; WAIT with TEST low only ends, with TEST high it has a further turn; ESC with a memory operand shows the host
its word, with a register it does nothing (92_eei_decisions.md D16 and D17). -/
def Obligations.StiHltWaitEsc : Prop :=
  ∀ s : State,
    (Completes .sti s fun t => t.flags = { s.flags with iF := true } ∧ t.latches = { s.latches with inhibit := true }
        ∧ SameRegsBut [] s t ∧ SameBytesOutside [] s t ∧ t.segs = s.segs ∧ t.ip = s.ip ∧ t.pre = s.pre
        ∧ t.progress = s.progress ∧ t.env = s.env)
      ∧ (s.env.cut = none → Completes .hlt s fun t => t.latches = { s.latches with halted := true }
          ∧ t.env = { s.env with busLog := s.env.busLog ++ [.halt] } ∧ t.flags = s.flags ∧ SameRegsBut [] s t
          ∧ SameBytesOutside [] s t ∧ t.segs = s.segs ∧ t.ip = s.ip ∧ t.pre = s.pre ∧ t.progress = s.progress)
      ∧ (Completes .wait s fun t => t.progress.repeating = (if s.env.testLow then none else some .wait)
          ∧ t.flags = s.flags ∧ SameRegsBut [] s t ∧ SameBytesOutside [] s t ∧ t.segs = s.segs ∧ t.ip = s.ip
          ∧ t.pre = s.pre ∧ t.latches = s.latches ∧ t.env = s.env)
      ∧ (∀ op r, exec (.esc op (.reg r)) s = .next s)
      ∧ ∀ op m, Plain s → Completes (.esc op (.mem m)) s fun t =>
          t.env = { s.env with busLog := s.env.busLog ++ [.escape op (phys (s.memSeg m) (s.memOff m))
            (phys (s.memSeg m) (s.memOff m + 1)) (s.readSeg (s.memSeg m) (s.memOff m) .word)] }
          ∧ t.flags = s.flags ∧ SameRegsBut [] s t ∧ SameBytesOutside [] s t ∧ t.segs = s.segs ∧ t.ip = s.ip
          ∧ t.pre = s.pre ∧ t.latches = s.latches ∧ t.progress = s.progress

/-- Each prefix byte sets its piece of the prefix state, replacing what an earlier prefix of its kind set, and changes
nothing else (10_state.md rule R42, 30_encoding.md rule R97, 92_eei_decisions.md D14). -/
def Obligations.PrefixesSetTheirLatch : Prop :=
  ∀ s : State,
    let sets := fun (i : Instr) (p : Prefixes) => Completes i s fun t =>
      t.pre = p ∧ t.regs = s.regs ∧ t.segs = s.segs ∧ t.ip = s.ip ∧ t.flags = s.flags ∧ t.mem = s.mem
        ∧ t.latches = s.latches ∧ t.progress = s.progress ∧ t.env = s.env
    (∀ sr, sets (.seg sr) { s.pre with segOvr := some sr }) ∧ sets .lock { s.pre with lock := true }
      ∧ sets .repne { s.pre with rep := some .repnz } ∧ sets .rep { s.pre with rep := some .repz }

/-! ## The whole machine -/

/-- CS is written only by the far forms of JMP, CALL and RET, by INT, INTO, IRET and by the divide error of DIV and IDIV
(10_state.md rule R26): every other instruction leaves it. -/
def Obligations.CsWrittenOnlyByFarTransfers : Prop :=
  ∀ (i : Instr) (s t : State), exec i s = .next t →
    t.segs.cs = s.segs.cs ∨ (∃ off sgm, i = .jmpFar off sgm ∨ i = .callFar off sgm)
      ∨ (∃ m, i = .jmpFarMem m ∨ i = .callFarMem m) ∨ i = .retFar ∨ (∃ n, i = .retFarImm n) ∨ (∃ n, i = .int n)
      ∨ i = .int3 ∨ i = .into ∨ i = .iret ∨ (∃ w rm, i = .div w rm ∨ i = .idiv w rm)

/-- TF is set by POPF and IRET only; IF is set by STI, POPF and IRET only; DF is changed by CLD, STD, POPF and IRET only
(10_state.md rule R31). -/
def Obligations.ControlFlagWriters : Prop :=
  ∀ (i : Instr) (s t : State), exec i s = .next t →
    (s.flags.tf = false → t.flags.tf = true → i = .popf ∨ i = .iret)
      ∧ (s.flags.iF = false → t.flags.iF = true → i = .sti ∨ i = .popf ∨ i = .iret)
      ∧ (t.flags.df ≠ s.flags.df → i = .cld ∨ i = .std ∨ i = .popf ∨ i = .iret)

/-- The boundary after an instruction (60_exceptions.md rules R361, R364 and R366; the order of INTR and the trap is
92_eei_decisions.md D12). `v` is the state between the external interrupt and the trap. With the inhibit window open
nothing external is looked at, the window closes, and the trap is taken unless SS was loaded; else NMI comes before
INTR, INTR needs IF, at most one of them is entered, and the trap comes last. The saved IP is that of the first prefix
byte while a turn of the instruction is left (92_eei_decisions.md D13), else that of the next instruction. The type INTR
enters is the byte the acknowledge fetched, the next one scripted if there is one (log entry 13, DESIGN CHOICE; D25). -/
def Obligations.BoundaryOrder : Prop :=
  ∀ t : State, Plain t → t.progress.repeating ≠ some .wait →
    ∃ u v, completeAnswer (.next t) = .next u ∧ u.latches.inhibit = false
      ∧ (t.latches.inhibit = true → Follows t v ∧ v.latches.nmiPending = t.latches.nmiPending ∧ v.env = t.env
          ∧ v.savedIp = t.savedIp)
      ∧ (t.latches.inhibit = false → t.latches.nmiPending = true →
          Entered 2 t.savedIp (t.setLatches { t.latches with nmiPending := false }) v ∧ v.env = t.env)
      ∧ (t.latches.inhibit = false → t.latches.nmiPending = false → t.env.intr = true → t.flags.iF = true →
          ∃ n, Entered n t.savedIp t v ∧ v.env.busLog = t.env.busLog ++ [.intAck n]
            ∧ ∀ n' ns, t.env.ackIn = n' :: ns → n = n' ∧ v.env.ackIn = ns)
      ∧ (t.latches.inhibit = false → t.latches.nmiPending = false → (t.env.intr = false ∨ t.flags.iF = false) →
          v = t)
      ∧ (if t.progress.t0 = true ∧ (t.latches.inhibit = true → t.progress.ssLoad = false)
          then Entered 1 v.savedIp v u else Follows v u)
      ∧ (t.progress.repeating ≠ none → t.savedIp = t.progress.instrIp)
      ∧ (t.progress.repeating = none → t.savedIp = t.ip)

/-- Single step (60_exceptions.md rule R358, 92_eei_decisions.md D11): with nothing else pending, an instruction that
began with TF = 1 is followed by a type 1 entry whatever it did to TF, and one that began with TF = 0 is not. -/
def Obligations.SingleStepTrap : Prop :=
  ∀ (s t : State) (i : Instr) (n : Nat), Fetches s i n → Plain s → s.progress.mid = false →
    exec i (s.fetched n) = .next t → t.latches.inhibit = false → t.latches.nmiPending = false →
    (t.env.intr = false ∨ t.flags.iF = false) → t.progress.repeating ≠ some .wait →
    ∃ u, step s = .next u ∧ (s.flags.tf = true → Entered 1 t.savedIp t u) ∧ (s.flags.tf = false → Follows t u)

/-- The inhibit window (60_exceptions.md rule R361, 92_eei_decisions.md D32): at the boundary after MOV SS, POP SS and
STI no NMI and no INTR is taken, whatever is pending; a pending NMI stays; after a load of SS the trap is dropped. -/
def Obligations.InhibitWindowHoldsOff : Prop :=
  ∀ (s : State) (i : Instr) (n : Nat), Fetches s i n → Plain s →
    ((∃ rm, i = .movSsRm rm) ∨ i = .popSs ∨ i = .sti) → (i = .sti → s.progress.mid = false ∧ s.flags.tf = false) →
    ∃ t u, exec i (s.fetched n) = .next t ∧ step s = .next u ∧ Follows t u ∧ u.ip = s.ip + BitVec.ofNat 16 n
      ∧ u.latches.nmiPending = s.latches.nmiPending ∧ u.latches.inhibit = false ∧ u.env = s.env

/-- A halted CPU runs no instruction: NMI, or INTR with IF = 1, is entered with the IP after the HLT; with neither the
state stays as it is (45_processor_control.md rule R327, 92_eei_decisions.md D17). A further turn of a WAIT (rule R330):
with TEST high and nothing pending the CPU stays where it is; NMI, or INTR with IF = 1, is entered with the IP of the
WAIT's first byte; with TEST low and nothing pending the instruction is over. The type INTR enters is the byte the
acknowledge fetched, the next one scripted if there is one (log entry 13). -/
def Obligations.WaitingStates : Prop :=
  ∀ s : State, Plain s → s.env.inputs = [] → s.progress.freshReset = false →
    let nmi := fun savedIp => ∃ u, step s = .next u
      ∧ Entered 2 savedIp (s.setLatches { s.latches with nmiPending := false }) u ∧ u.env = s.env
    let intr := fun savedIp => ∃ u n, step s = .next u ∧ Entered n savedIp s u
      ∧ u.env = { s.env with ackIn := s.env.ackIn.tail, busLog := s.env.busLog ++ [.intAck n] }
      ∧ ∀ n' ns, s.env.ackIn = n' :: ns → n = n'
    let pending := s.latches.nmiPending = true
    let raised := s.latches.nmiPending = false ∧ s.env.intr = true ∧ s.flags.iF = true
    let quiet := s.latches.nmiPending = false ∧ (s.env.intr = false ∨ s.flags.iF = false)
    (s.latches.halted = true → (pending → nmi s.ip) ∧ (raised → intr s.ip) ∧ (quiet → step s = .next s))
      ∧ (s.latches.halted = false → s.latches.inhibit = false → s.progress.repeating = some .wait →
        (s.env.testLow = false → (quiet → step s = .next s) ∧ (pending → nmi s.progress.instrIp)
            ∧ (raised → intr s.progress.instrIp))
          ∧ (s.env.testLow = true → quiet → s.progress.t0 = false → ∃ u, step s = .next u ∧ Follows s u
              ∧ u.progress.repeating = none ∧ u.progress.mid = false ∧ u.env = s.env))

/-- What reset leaves, before the first step: execution starts at physical FFFF0h with IF = 0 (10_state.md rules R43 and
R44); nothing is said of the other registers and flags. And what a RESET event leaves (70_reset_and_hazards.md rule
R390): CS:IP is FFFFh:0000h (92_eei_decisions.md D5), IF, TF, the latches and the prefix state are cleared, the queue is
emptied, and memory is not touched, but for writes other masters had waiting. -/
def Obligations.ResetState : Prop :=
  State.reset.segs.cs = 0xFFFF ∧ State.reset.ip = 0 ∧ phys State.reset.segs.cs State.reset.ip = 0xFFFF0
    ∧ State.reset.flags.iF = false ∧ State.reset.flags.tf = false ∧ State.reset.pre = Prefixes.none
    ∧ State.reset.latches = { nmiPending := false, inhibit := false, halted := false } ∧ State.reset.stale = []
    ∧ ∀ s : State,
      let t := s.applyEvent .reset
      t.segs.cs = 0xFFFF ∧ t.ip = 0 ∧ t.flags.iF = false ∧ t.flags.tf = false
        ∧ t.latches = { nmiPending := false, inhibit := false, halted := false } ∧ t.pre = Prefixes.none
        ∧ t.progress.repeating = none ∧ t.progress.freshReset = true ∧ t.env.inputs = s.env.inputs
        ∧ t.env.waiting = [] ∧ t.env.cut = none
        ∧ (s.env.waiting = [] → t.mem = s.mem ∧ t.stale = [] ∧ t.env.busLog = s.env.busLog)

/-- RESET in the course of a step (70_reset_and_hazards.md rule R390): the step, if it answers, ends in the state of reset;
once RESET has gone high the instruction writes nothing more and shows the host nothing more; and a word it stores may be
cut between its bytes, with the low byte in memory and the high byte not (log entry 14). -/
def Obligations.ResetCutsInstruction : Prop :=
  (∀ s u : State, s.takeInputs.env.cut ≠ none → step s = .next u →
      u.segs.cs = 0xFFFF ∧ u.ip = 0 ∧ u.flags.iF = false ∧ u.flags.tf = false
        ∧ u.latches = { nmiPending := false, inhibit := false, halted := false } ∧ u.pre = Prefixes.none
        ∧ u.progress.repeating = none ∧ u.progress.freshReset = true ∧ u.env.cut = none ∧ u.env.waiting = [])
    ∧ (∀ (i : Instr) (s t : State), s.env.cut = some 0 → s.env.waiting = [] → exec i s = .next t →
        t.mem = s.mem ∧ t.env = s.env)
    ∧ ∀ (s : State) (addr : Word) (n : Nat), s.env.cut = some n → s.env.waiting = [] →
      let sg := s.memSeg (.direct addr)
      s.AllRam (accessBytes sg addr .word) →
      Completes (.movMemAcc .word addr) s fun t =>
        t.byteAt (phys sg addr) = (if 1 ≤ n then loByte s.regs.ax else s.byteAt (phys sg addr))
          ∧ t.byteAt (phys sg (addr + 1)) = (if 2 ≤ n then hiByte s.regs.ax else s.byteAt (phys sg (addr + 1)))
          ∧ SameBytesOutside (accessBytes sg addr .word) s t

/-- While a LOCK prefix is in force on a machine in maximum mode no write of another bus master reaches memory, and none is
lost: it waits, in its place, the events scripted for later steps stay as they are, and the end of the lock makes the
waiting writes in their order (20_memory.md rule R71). In minimum mode the prefix is a no-operation: the write is made
(45_processor_control.md rule R334). -/
def Obligations.LockHoldsOffBusMasters : Prop :=
  ∀ (s : State) (ws : List MasterWrite) (rest : List (List HostEvent)), s.pre.lock = true →
    s.env.inputs = ws.map HostEvent.busWrite :: rest →
    (s.env.maxMode = true → s.takeInputs.mem = s.mem
        ∧ s.takeInputs.env = { s.env with inputs := rest, waiting := s.env.waiting ++ ws.map fun w => [w] })
      ∧ (s.env.maxMode = false → s.takeInputs = (s.setEnv { s.env with inputs := rest }).masterWrites ws)
      ∧ (s.env.maxMode = true → s.gap = s ∧ s.releaseBus = s)
      ∧ ∀ p, p.lock = false → (s.setPre p).releaseBus
          = ((s.setPre p).setEnv { s.env with waiting := [] }).masterWrites s.env.waiting.flatten

/-- Another master in the gap of a read-modify-write (20_memory.md rules R60, R70 and R71, 70_reset_and_hazards.md rule
R409): an unlocked INC or XCHG of a byte reads it, the other master then writes it, and the instruction's own write comes
last, so that the other master's is lost; under LOCK the instruction finds and leaves the byte alone, and the other master
still waits. -/
def Obligations.BusMasterGap : Prop :=
  ∀ (s : State) (m : MemRef) (reg : Reg) (w : MasterWrite) (rest : List (List MasterWrite)),
    w.addr.toNat = phys (s.memSeg m) (s.memOff m) → s.kindAt w.addr.toNat = .ram → s.env.cut = none →
    s.env.waiting = [w] :: rest →
    let a := w.addr.toNat
    (s.busLocked = true →
        (Completes (.incRm .byte (.mem m)) s fun t => t.byteAt a = s.byteAt a + 1 ∧ t.env = s.env
            ∧ SameBytesOutside [a] s t)
          ∧ Completes (.xchgRmReg .byte (.mem m) reg) s fun t => t.regs.get8 reg = s.byteAt a
            ∧ t.byteAt a = s.regs.get8 reg ∧ t.env = s.env ∧ SameBytesOutside [a] s t)
      ∧ (s.busLocked = false → rest = [] →
        (s.gap.byteAt a = w.value ∧ s.gap.env = { s.env with waiting := [] })
          ∧ (Completes (.incRm .byte (.mem m)) s fun t => t.byteAt a = s.byteAt a + 1
              ∧ t.env = { s.env with waiting := [] } ∧ SameBytesOutside [a] s t)
          ∧ Completes (.xchgRmReg .byte (.mem m) reg) s fun t => t.regs.get8 reg = s.byteAt a
              ∧ t.byteAt a = s.regs.get8 reg ∧ t.env = { s.env with waiting := [] } ∧ SameBytesOutside [a] s t)

/-- The queue hazard (20_memory.md rules R75 and R76, 93_implementation_defined.md U7): after a store into a byte of RAM that
may be queued a fetch sees the old byte or the new one; a byte stored outside the queue's span, or fetched after a taken
transfer, is seen as memory has it. -/
def Obligations.QueueHazard : Prop :=
  ∀ (s : State) (a k : Nat) (v : Byte), Plain s → s.kindAt a = .ram → s.stale = [] →
    ((s.writeByte a v).fetchByte a k = v ∨ (s.writeByte a v).fetchByte a k = s.byteAt a)
      ∧ ((∀ j, j < 4 → phys s.segs.cs (s.ip + BitVec.ofNat 16 j) ≠ a) → (s.writeByte a v).fetchByte a k = v)
      ∧ (∀ off, ((s.writeByte a v).jumpNear off).fetchByte a k = v)

/-- An NMI edge that comes before the first fetch after reset is taken either before the first instruction or after it
(70_reset_and_hazards.md rule R391). -/
def Obligations.EarlyNmiEitherWay : Prop :=
  ∀ s : State, Plain s → s.env.inputs = [] → s.progress.freshReset = true → s.latches.nmiPending = true →
    s.latches.halted = false → s.progress.repeating = none →
    (∃ u, step s = .next u ∧ Entered 2 s.ip (s.setLatches { s.latches with nmiPending := false }) u)
      ∨ step s = finishAnswer
          (((s.setProgress { s.progress with freshReset := false }).setDraws (s.draws + 1)).fetchAndRun)

/-- Prefixes last for one instruction: when an instruction has completed and no turn of it is left, no prefix is active,
nothing is in progress and t0 is gone (10_state.md rule R42). So it is for an instruction that is over in the step that
fetches it, and for one that ends with a later turn. -/
def Obligations.PrefixesEndWithInstruction : Prop :=
  ∀ s u : State, step s = .next u → u.progress.repeating = none →
    ((∃ i n, Fetches s i n) ∨ (∃ p, s.takeInputs.progress.repeating = some p) ∧ s.takeInputs.progress.freshReset = false
        ∧ s.takeInputs.latches.halted = false) →
    u.pre = Prefixes.none ∧ u.progress.mid = false ∧ u.progress.t0 = false
end

