-- ==== Sys2Proof/Laws/Memory.lean ====
section
/-! SUPPORT. The laws of memory: a read after a write, and the canonical form, which every write keeps. -/

namespace Sys2Proof.Machine

@[simp] theorem Memory.read_write_same (m : List Host.Cell) (a : Nat) (v : Byte) :
    Memory.read (Memory.write m a v) a = v := by
  induction m with
  | nil => simp [Memory.write, Memory.read]
  | cons c m ih =>
    obtain ⟨k, x⟩ := c
    unfold Memory.write
    split
    · next hka => simp only [Memory.read, if_neg (Nat.ne_of_lt hka)]; exact ih
    · split <;> simp [Memory.read]

theorem Memory.read_write_other (m : List Host.Cell) (a b : Nat) (v : Byte) (h : b ≠ a) :
    Memory.read (Memory.write m a v) b = Memory.read m b := by
  have h' : a ≠ b := fun e => h e.symm
  induction m with
  | nil => simp [Memory.write, Memory.read, h']
  | cons c m ih =>
    obtain ⟨k, x⟩ := c
    unfold Memory.write
    split
    · simp only [Memory.read]; rw [ih]
    · split
      · next hk => subst hk; simp [Memory.read, h']
      · simp [Memory.read, h']

/-- Every cell of a memory after a write is the one written, or was there. -/
theorem Memory.mem_write {m : List Host.Cell} {a : Nat} {v : Byte} {c : Host.Cell} (h : c ∈ Memory.write m a v) :
    c = (a, v) ∨ c ∈ m := by
  induction m with
  | nil => exact Or.inl (by simpa [Memory.write] using h)
  | cons d m ih =>
    obtain ⟨k, x⟩ := d
    unfold Memory.write at h
    split at h
    · rcases List.mem_cons.1 h with h | h
      · exact Or.inr (by simp [h])
      · exact (ih h).imp_right (List.mem_cons_of_mem _)
    · split at h
      · exact (List.mem_cons.1 h).imp_right (List.mem_cons_of_mem _)
      · exact List.mem_cons.1 h

theorem Memory.write_wf (m : List Host.Cell) (a : Nat) (v : Byte) (h : Memory.wf m) (ha : a < 2 ^ 20) :
    Memory.wf (Memory.write m a v) := by
  refine ⟨?_, fun c hc => ?_⟩
  · obtain ⟨hp, -⟩ := h
    induction m with
    | nil => simp [Memory.write]
    | cons d m ih =>
      obtain ⟨k, x⟩ := d
      obtain ⟨hk, hm⟩ := List.pairwise_cons.1 hp
      unfold Memory.write
      split
      · next hka =>
        refine List.pairwise_cons.2 ⟨fun c hc => ?_, ih hm⟩
        rcases Memory.mem_write hc with rfl | hc
        · exact hka
        · exact hk c hc
      · split
        · next hka => subst hka; exact List.pairwise_cons.2 ⟨hk, hm⟩
        · next hnlt hne =>
          have hlt : a < k := by omega
          refine List.pairwise_cons.2 ⟨fun c hc => ?_, hp⟩
          rcases List.mem_cons.1 hc with rfl | hc
          · exact hlt
          · exact Nat.lt_trans hlt (hk c hc)
  · rcases Memory.mem_write hc with rfl | hc
    · exact ha
    · exact h.2 c hc

theorem Memory.nil_wf : Memory.wf [] := by simp [Memory.wf]

theorem phys_lt (sg off : Word) : phys sg off < 2 ^ 20 := Nat.mod_lt _ (by decide)

/-- The two bytes of a word never coincide, whatever wraps. -/
theorem phys_succ_ne (sg off : Word) : phys sg (off + 1) ≠ phys sg off := by
  unfold phys
  have h1 := off.isLt
  have h2 : (off + 1).toNat = (off.toNat + 1) % 65536 := by simp [BitVec.toNat_add]
  omega

end Sys2Proof.Machine
end

