-- ==== Sys2Proof/Laws/Registers.lean ====
section
/-! SUPPORT. The general registers and their halves: what each read gives after each write. -/

namespace Sys2Proof

@[simp] theorem loByte_joinBytes (h l : Byte) : loByte (joinBytes h l) = l := by
  unfold loByte joinBytes
  ext i hi
  simp only [BitVec.getElem_extractLsb', BitVec.getLsbD_append, Nat.zero_add, if_pos hi]
  exact BitVec.getLsbD_eq_getElem hi

@[simp] theorem hiByte_joinBytes (h l : Byte) : hiByte (joinBytes h l) = h := by
  unfold hiByte joinBytes
  ext i hi
  simp only [BitVec.getElem_extractLsb', BitVec.getLsbD_append]
  have : ¬ (8 + i < 8) := by omega
  simp [this, BitVec.getLsbD_eq_getElem hi]

@[simp] theorem joinBytes_hiByte_loByte (x : Word) : joinBytes (hiByte x) (loByte x) = x := by
  unfold joinBytes hiByte loByte
  ext i hi
  simp only [BitVec.getElem_append, BitVec.getElem_extractLsb']
  split
  · simp [BitVec.getLsbD_eq_getElem hi]
  · rw [show 8 + (i - 8) = i by omega, BitVec.getLsbD_eq_getElem hi]

end Sys2Proof

namespace Sys2Proof.Machine

@[simp] theorem Regs.get16_set16 (g : Regs) (r : Reg) (v : Word) : (g.set16 r v).get16 r = v := by cases r <;> rfl

theorem Regs.get16_set16_ne (g : Regs) {r q : Reg} (v : Word) (h : q ≠ r) :
    (g.set16 r v).get16 q = g.get16 q := by cases r <;> cases q <;> first | rfl | exact absurd rfl h

@[simp] theorem Regs.get8_set8 (g : Regs) (r : Reg) (v : Byte) : (g.set8 r v).get8 r = v := by
  cases r <;> simp [Regs.get8, Regs.set8]

theorem Regs.get8_set8_ne (g : Regs) {r q : Reg} (v : Byte) (h : q ≠ r) : (g.set8 r v).get8 q = g.get8 q := by
  cases r <;> cases q <;> first | exact absurd rfl h | simp [Regs.get8, Regs.set8]

@[simp] theorem Regs.get_set (g : Regs) (w : Width) (r : Reg) (v : BitVec w.bits) : (g.set w r v).get w r = v := by
  cases w
  · exact Regs.get8_set8 g r v
  · exact Regs.get16_set16 g r v

/-- A byte write leaves SP, BP, SI and DI. -/
theorem Regs.set8_pointers (g : Regs) (r : Reg) (v : Byte) :
    (g.set8 r v).sp = g.sp ∧ (g.set8 r v).bp = g.bp ∧ (g.set8 r v).si = g.si ∧ (g.set8 r v).di = g.di := by
  cases r <;> exact ⟨rfl, rfl, rfl, rfl⟩

@[simp] theorem Segs.get_set (g : Segs) (i : SReg) (v : Word) : (g.set i v).get i = v := by cases i <;> rfl

theorem Segs.get_set_ne (g : Segs) {i j : SReg} (v : Word) (h : j ≠ i) : (g.set i v).get j = g.get j := by
  cases i <;> cases j <;> first | rfl | exact absurd rfl h

end Sys2Proof.Machine
end

