-- ==== Sys2Proof/Laws/State.lean ====
section
/-! SUPPORT. What each named update of the state does to each field. -/

namespace Sys2Proof.Machine

section setRegs
variable (s : State) (v : Regs)

@[simp] theorem State.setRegs_regs : (s.setRegs v).regs = v := rfl
@[simp] theorem State.setRegs_segs : (s.setRegs v).segs = s.segs := rfl
@[simp] theorem State.setRegs_ip : (s.setRegs v).ip = s.ip := rfl
@[simp] theorem State.setRegs_flags : (s.setRegs v).flags = s.flags := rfl
@[simp] theorem State.setRegs_mem : (s.setRegs v).mem = s.mem := rfl
@[simp] theorem State.setRegs_pre : (s.setRegs v).pre = s.pre := rfl
@[simp] theorem State.setRegs_latches : (s.setRegs v).latches = s.latches := rfl
@[simp] theorem State.setRegs_progress : (s.setRegs v).progress = s.progress := rfl
@[simp] theorem State.setRegs_env : (s.setRegs v).env = s.env := rfl
@[simp] theorem State.setRegs_stale : (s.setRegs v).stale = s.stale := rfl
@[simp] theorem State.setRegs_draws : (s.setRegs v).draws = s.draws := rfl

end setRegs

section setSegs
variable (s : State) (v : Segs)

@[simp] theorem State.setSegs_regs : (s.setSegs v).regs = s.regs := rfl
@[simp] theorem State.setSegs_segs : (s.setSegs v).segs = v := rfl
@[simp] theorem State.setSegs_ip : (s.setSegs v).ip = s.ip := rfl
@[simp] theorem State.setSegs_flags : (s.setSegs v).flags = s.flags := rfl
@[simp] theorem State.setSegs_mem : (s.setSegs v).mem = s.mem := rfl
@[simp] theorem State.setSegs_pre : (s.setSegs v).pre = s.pre := rfl
@[simp] theorem State.setSegs_latches : (s.setSegs v).latches = s.latches := rfl
@[simp] theorem State.setSegs_progress : (s.setSegs v).progress = s.progress := rfl
@[simp] theorem State.setSegs_env : (s.setSegs v).env = s.env := rfl
@[simp] theorem State.setSegs_stale : (s.setSegs v).stale = s.stale := rfl
@[simp] theorem State.setSegs_draws : (s.setSegs v).draws = s.draws := rfl

end setSegs

section setIp
variable (s : State) (v : Word)

@[simp] theorem State.setIp_regs : (s.setIp v).regs = s.regs := rfl
@[simp] theorem State.setIp_segs : (s.setIp v).segs = s.segs := rfl
@[simp] theorem State.setIp_ip : (s.setIp v).ip = v := rfl
@[simp] theorem State.setIp_flags : (s.setIp v).flags = s.flags := rfl
@[simp] theorem State.setIp_mem : (s.setIp v).mem = s.mem := rfl
@[simp] theorem State.setIp_pre : (s.setIp v).pre = s.pre := rfl
@[simp] theorem State.setIp_latches : (s.setIp v).latches = s.latches := rfl
@[simp] theorem State.setIp_progress : (s.setIp v).progress = s.progress := rfl
@[simp] theorem State.setIp_env : (s.setIp v).env = s.env := rfl
@[simp] theorem State.setIp_stale : (s.setIp v).stale = s.stale := rfl
@[simp] theorem State.setIp_draws : (s.setIp v).draws = s.draws := rfl

end setIp

section setFlags
variable (s : State) (v : Flags)

@[simp] theorem State.setFlags_regs : (s.setFlags v).regs = s.regs := rfl
@[simp] theorem State.setFlags_segs : (s.setFlags v).segs = s.segs := rfl
@[simp] theorem State.setFlags_ip : (s.setFlags v).ip = s.ip := rfl
@[simp] theorem State.setFlags_flags : (s.setFlags v).flags = v := rfl
@[simp] theorem State.setFlags_mem : (s.setFlags v).mem = s.mem := rfl
@[simp] theorem State.setFlags_pre : (s.setFlags v).pre = s.pre := rfl
@[simp] theorem State.setFlags_latches : (s.setFlags v).latches = s.latches := rfl
@[simp] theorem State.setFlags_progress : (s.setFlags v).progress = s.progress := rfl
@[simp] theorem State.setFlags_env : (s.setFlags v).env = s.env := rfl
@[simp] theorem State.setFlags_stale : (s.setFlags v).stale = s.stale := rfl
@[simp] theorem State.setFlags_draws : (s.setFlags v).draws = s.draws := rfl

end setFlags

section setMem
variable (s : State) (v : List Host.Cell)

@[simp] theorem State.setMem_regs : (s.setMem v).regs = s.regs := rfl
@[simp] theorem State.setMem_segs : (s.setMem v).segs = s.segs := rfl
@[simp] theorem State.setMem_ip : (s.setMem v).ip = s.ip := rfl
@[simp] theorem State.setMem_flags : (s.setMem v).flags = s.flags := rfl
@[simp] theorem State.setMem_mem : (s.setMem v).mem = v := rfl
@[simp] theorem State.setMem_pre : (s.setMem v).pre = s.pre := rfl
@[simp] theorem State.setMem_latches : (s.setMem v).latches = s.latches := rfl
@[simp] theorem State.setMem_progress : (s.setMem v).progress = s.progress := rfl
@[simp] theorem State.setMem_env : (s.setMem v).env = s.env := rfl
@[simp] theorem State.setMem_stale : (s.setMem v).stale = s.stale := rfl
@[simp] theorem State.setMem_draws : (s.setMem v).draws = s.draws := rfl

end setMem

section setPre
variable (s : State) (v : Prefixes)

@[simp] theorem State.setPre_regs : (s.setPre v).regs = s.regs := rfl
@[simp] theorem State.setPre_segs : (s.setPre v).segs = s.segs := rfl
@[simp] theorem State.setPre_ip : (s.setPre v).ip = s.ip := rfl
@[simp] theorem State.setPre_flags : (s.setPre v).flags = s.flags := rfl
@[simp] theorem State.setPre_mem : (s.setPre v).mem = s.mem := rfl
@[simp] theorem State.setPre_pre : (s.setPre v).pre = v := rfl
@[simp] theorem State.setPre_latches : (s.setPre v).latches = s.latches := rfl
@[simp] theorem State.setPre_progress : (s.setPre v).progress = s.progress := rfl
@[simp] theorem State.setPre_env : (s.setPre v).env = s.env := rfl
@[simp] theorem State.setPre_stale : (s.setPre v).stale = s.stale := rfl
@[simp] theorem State.setPre_draws : (s.setPre v).draws = s.draws := rfl

end setPre

section setLatches
variable (s : State) (v : Latches)

@[simp] theorem State.setLatches_regs : (s.setLatches v).regs = s.regs := rfl
@[simp] theorem State.setLatches_segs : (s.setLatches v).segs = s.segs := rfl
@[simp] theorem State.setLatches_ip : (s.setLatches v).ip = s.ip := rfl
@[simp] theorem State.setLatches_flags : (s.setLatches v).flags = s.flags := rfl
@[simp] theorem State.setLatches_mem : (s.setLatches v).mem = s.mem := rfl
@[simp] theorem State.setLatches_pre : (s.setLatches v).pre = s.pre := rfl
@[simp] theorem State.setLatches_latches : (s.setLatches v).latches = v := rfl
@[simp] theorem State.setLatches_progress : (s.setLatches v).progress = s.progress := rfl
@[simp] theorem State.setLatches_env : (s.setLatches v).env = s.env := rfl
@[simp] theorem State.setLatches_stale : (s.setLatches v).stale = s.stale := rfl
@[simp] theorem State.setLatches_draws : (s.setLatches v).draws = s.draws := rfl

end setLatches

section setProgress
variable (s : State) (v : Progress)

@[simp] theorem State.setProgress_regs : (s.setProgress v).regs = s.regs := rfl
@[simp] theorem State.setProgress_segs : (s.setProgress v).segs = s.segs := rfl
@[simp] theorem State.setProgress_ip : (s.setProgress v).ip = s.ip := rfl
@[simp] theorem State.setProgress_flags : (s.setProgress v).flags = s.flags := rfl
@[simp] theorem State.setProgress_mem : (s.setProgress v).mem = s.mem := rfl
@[simp] theorem State.setProgress_pre : (s.setProgress v).pre = s.pre := rfl
@[simp] theorem State.setProgress_latches : (s.setProgress v).latches = s.latches := rfl
@[simp] theorem State.setProgress_progress : (s.setProgress v).progress = v := rfl
@[simp] theorem State.setProgress_env : (s.setProgress v).env = s.env := rfl
@[simp] theorem State.setProgress_stale : (s.setProgress v).stale = s.stale := rfl
@[simp] theorem State.setProgress_draws : (s.setProgress v).draws = s.draws := rfl

end setProgress

section setEnv
variable (s : State) (v : Env)

@[simp] theorem State.setEnv_regs : (s.setEnv v).regs = s.regs := rfl
@[simp] theorem State.setEnv_segs : (s.setEnv v).segs = s.segs := rfl
@[simp] theorem State.setEnv_ip : (s.setEnv v).ip = s.ip := rfl
@[simp] theorem State.setEnv_flags : (s.setEnv v).flags = s.flags := rfl
@[simp] theorem State.setEnv_mem : (s.setEnv v).mem = s.mem := rfl
@[simp] theorem State.setEnv_pre : (s.setEnv v).pre = s.pre := rfl
@[simp] theorem State.setEnv_latches : (s.setEnv v).latches = s.latches := rfl
@[simp] theorem State.setEnv_progress : (s.setEnv v).progress = s.progress := rfl
@[simp] theorem State.setEnv_env : (s.setEnv v).env = v := rfl
@[simp] theorem State.setEnv_stale : (s.setEnv v).stale = s.stale := rfl
@[simp] theorem State.setEnv_draws : (s.setEnv v).draws = s.draws := rfl

end setEnv

section setStale
variable (s : State) (v : List Host.Cell)

@[simp] theorem State.setStale_regs : (s.setStale v).regs = s.regs := rfl
@[simp] theorem State.setStale_segs : (s.setStale v).segs = s.segs := rfl
@[simp] theorem State.setStale_ip : (s.setStale v).ip = s.ip := rfl
@[simp] theorem State.setStale_flags : (s.setStale v).flags = s.flags := rfl
@[simp] theorem State.setStale_mem : (s.setStale v).mem = s.mem := rfl
@[simp] theorem State.setStale_pre : (s.setStale v).pre = s.pre := rfl
@[simp] theorem State.setStale_latches : (s.setStale v).latches = s.latches := rfl
@[simp] theorem State.setStale_progress : (s.setStale v).progress = s.progress := rfl
@[simp] theorem State.setStale_env : (s.setStale v).env = s.env := rfl
@[simp] theorem State.setStale_stale : (s.setStale v).stale = v := rfl
@[simp] theorem State.setStale_draws : (s.setStale v).draws = s.draws := rfl

end setStale

section setDraws
variable (s : State) (v : Nat)

@[simp] theorem State.setDraws_regs : (s.setDraws v).regs = s.regs := rfl
@[simp] theorem State.setDraws_segs : (s.setDraws v).segs = s.segs := rfl
@[simp] theorem State.setDraws_ip : (s.setDraws v).ip = s.ip := rfl
@[simp] theorem State.setDraws_flags : (s.setDraws v).flags = s.flags := rfl
@[simp] theorem State.setDraws_mem : (s.setDraws v).mem = s.mem := rfl
@[simp] theorem State.setDraws_pre : (s.setDraws v).pre = s.pre := rfl
@[simp] theorem State.setDraws_latches : (s.setDraws v).latches = s.latches := rfl
@[simp] theorem State.setDraws_progress : (s.setDraws v).progress = s.progress := rfl
@[simp] theorem State.setDraws_env : (s.setDraws v).env = s.env := rfl
@[simp] theorem State.setDraws_stale : (s.setDraws v).stale = s.stale := rfl
@[simp] theorem State.setDraws_draws : (s.setDraws v).draws = v := rfl

end setDraws

end Sys2Proof.Machine
end

