-- ==== Sys2Proof/Laws/Bus.lean ====
section
/-! SUPPORT. What an access over the bus can change: memory and the host's side of it, never a register, a latch, the
prefix state, the memory map, the mode, an event still to come, or whether a RESET is under way. One lemma for
each bus operation, and its fields. -/

namespace Sys2Proof.Machine

/-- From `s` to `t` nothing changed but memory, the bytes that may be queued, the draws, the answers taken, the writes of
other masters made, and what the host was shown. -/
structure BusOnly (s t : State) : Prop where
  regs : t.regs = s.regs
  segs : t.segs = s.segs
  ip : t.ip = s.ip
  flags : t.flags = s.flags
  pre : t.pre = s.pre
  latches : t.latches = s.latches
  progress : t.progress = s.progress
  maxMode : t.env.maxMode = s.env.maxMode
  map : t.env.map = s.env.map
  intr : t.env.intr = s.env.intr
  testLow : t.env.testLow = s.env.testLow
  inputs : t.env.inputs = s.env.inputs
  cutSome : t.env.cut.isSome = s.env.cut.isSome

theorem BusOnly.refl (s : State) : BusOnly s s := ⟨rfl, rfl, rfl, rfl, rfl, rfl, rfl, rfl, rfl, rfl, rfl, rfl, rfl⟩

/-- The bookkeeping of the bus in the host's side is no more than a bus access may change. -/
theorem BusOnly.bookkeeping (s : State) (waiting : List (List MasterWrite)) (cut : Option Nat)
    (h : cut.isSome = s.env.cut.isSome) : BusOnly s (s.setEnv { s.env with waiting := waiting, cut := cut }) :=
  ⟨rfl, rfl, rfl, rfl, rfl, rfl, rfl, rfl, rfl, rfl, rfl, rfl, h⟩

theorem BusOnly.trans {s t u : State} (h : BusOnly s t) (k : BusOnly t u) : BusOnly s u :=
  ⟨k.regs.trans h.regs, k.segs.trans h.segs, k.ip.trans h.ip, k.flags.trans h.flags, k.pre.trans h.pre,
    k.latches.trans h.latches, k.progress.trans h.progress, k.maxMode.trans h.maxMode, k.map.trans h.map,
    k.intr.trans h.intr, k.testLow.trans h.testLow, k.inputs.trans h.inputs, k.cutSome.trans h.cutSome⟩

/-! ## Each operation -/

theorem State.store_busOnly (s : State) (a : Nat) (v : Byte) : BusOnly s (s.store a v) := by
  unfold State.store
  split
  · exact ⟨rfl, rfl, rfl, rfl, rfl, rfl, rfl, rfl, rfl, rfl, rfl, rfl, rfl⟩
  · exact .refl s

theorem State.masterWrites_busOnly (s : State) (ws : List MasterWrite) : BusOnly s (s.masterWrites ws) := by
  induction ws generalizing s with
  | nil => exact .refl s
  | cons w ws ih => exact (s.store_busOnly _ _).trans (ih _)

theorem State.gap_busOnly (s : State) : BusOnly s s.gap := by
  unfold State.gap
  split
  · exact .refl s
  · split
    · exact .refl s
    · exact (BusOnly.bookkeeping s _ _ rfl).trans (State.masterWrites_busOnly _ _)

theorem State.busCycle_busOnly (s : State) (f : State → State) (h : ∀ u, BusOnly u (f u)) :
    BusOnly s (s.busCycle f) := by
  unfold State.busCycle
  split
  · exact h s
  · exact .refl s
  · exact (BusOnly.bookkeeping s _ _ (by simp [*])).trans (h _)

theorem State.log_busOnly (s : State) (e : BusEvent) : BusOnly s (s.log e) :=
  ⟨rfl, rfl, rfl, rfl, rfl, rfl, rfl, rfl, rfl, rfl, rfl, rfl, rfl⟩

theorem State.afterRead_busOnly (s : State) (a : Nat) : BusOnly s (s.afterRead a) := by
  unfold State.afterRead
  split
  · exact .refl s
  · exact .refl s
  · exact ⟨rfl, rfl, rfl, rfl, rfl, rfl, rfl, rfl, rfl, rfl, rfl, rfl, rfl⟩
  · exact State.busCycle_busOnly _ _ fun _ => ⟨rfl, rfl, rfl, rfl, rfl, rfl, rfl, rfl, rfl, rfl, rfl, rfl, rfl⟩

theorem State.writeByte_busOnly (s : State) (a : Nat) (v : Byte) : BusOnly s (s.writeByte a v) := by
  refine State.busCycle_busOnly _ _ fun u => ?_
  split
  · exact u.log_busOnly _
  · exact u.store_busOnly a v

theorem State.afterSeg_busOnly (s : State) (sg off : Word) (w : Width) : BusOnly s (s.afterSeg sg off w) := by
  cases w
  · exact (s.afterRead_busOnly _).trans (State.gap_busOnly _)
  · exact ((s.afterRead_busOnly _).trans (State.afterRead_busOnly _ _)).trans (State.gap_busOnly _)

theorem State.writeSeg_busOnly (s : State) (sg off : Word) (w : Width) (v : BitVec w.bits) :
    BusOnly s (s.writeSeg sg off w v) := by
  cases w
  · exact (s.writeByte_busOnly _ _).trans (State.gap_busOnly _)
  · exact ((s.writeByte_busOnly _ _).trans (State.writeByte_busOnly _ _ _)).trans (State.gap_busOnly _)

theorem State.afterPhys16_busOnly (s : State) (a : Nat) : BusOnly s (s.afterPhys16 a) :=
  ((s.afterRead_busOnly _).trans (State.afterRead_busOnly _ _)).trans (State.gap_busOnly _)

theorem State.afterVector_busOnly (s : State) (type : Byte) : BusOnly s (s.afterVector type) :=
  (s.afterPhys16_busOnly _).trans (State.afterPhys16_busOnly _ _)

theorem State.afterRm_busOnly (s : State) (w : Width) (rm : Rm) : BusOnly s (s.afterRm w rm) := by
  cases rm with
  | reg r => exact .refl s
  | mem m => exact s.afterSeg_busOnly _ _ w

theorem State.afterFar_busOnly (s : State) (m : MemRef) : BusOnly s (s.afterFar m) :=
  (s.afterSeg_busOnly _ _ _).trans (State.afterSeg_busOnly _ _ _ _)

theorem State.afterSource_busOnly (s : State) (w : Width) : BusOnly s (s.afterSource w) := s.afterSeg_busOnly _ _ w

theorem State.afterDest_busOnly (s : State) (w : Width) : BusOnly s (s.afterDest w) := s.afterSeg_busOnly _ _ w

theorem State.afterPortRead_busOnly (s : State) (p : Word) : BusOnly s (s.afterPortRead p) :=
  State.busCycle_busOnly _ _ fun _ => ⟨rfl, rfl, rfl, rfl, rfl, rfl, rfl, rfl, rfl, rfl, rfl, rfl, rfl⟩

theorem State.portWrite_busOnly (s : State) (p : Word) (v : Byte) : BusOnly s (s.portWrite p v) :=
  State.busCycle_busOnly _ _ fun u => u.log_busOnly _

theorem State.ioRead_busOnly (s : State) (p : Word) (w : Width) : BusOnly s (s.ioRead p w).2 := by
  cases w
  · exact s.afterPortRead_busOnly p
  · exact (s.afterPortRead_busOnly p).trans (State.afterPortRead_busOnly _ _)

theorem State.ioWrite_busOnly (s : State) (p : Word) (w : Width) (v : BitVec w.bits) : BusOnly s (s.ioWrite p w v) := by
  cases w
  · exact s.portWrite_busOnly p v
  · exact (s.portWrite_busOnly p _).trans (State.portWrite_busOnly _ _ _)

theorem State.afterAck_busOnly (s : State) : BusOnly s s.afterAck :=
  State.busCycle_busOnly _ _ fun _ => ⟨rfl, rfl, rfl, rfl, rfl, rfl, rfl, rfl, rfl, rfl, rfl, rfl, rfl⟩

/-- A push is the change of SP and a word written. -/
theorem State.push16_busOnly (s : State) (v : Word) : BusOnly (s.setReg16 .spAh (s.regs.sp - 2)) (s.push16 v) :=
  State.writeSeg_busOnly _ _ _ _ _

/-! ## Field by field -/

section
variable (s : State) (a : Nat) (v : Byte)
@[simp] theorem State.store_regs : (s.store a v).regs = s.regs := (s.store_busOnly a v).regs
@[simp] theorem State.store_segs : (s.store a v).segs = s.segs := (s.store_busOnly a v).segs
@[simp] theorem State.store_ip : (s.store a v).ip = s.ip := (s.store_busOnly a v).ip
@[simp] theorem State.store_flags : (s.store a v).flags = s.flags := (s.store_busOnly a v).flags
@[simp] theorem State.store_pre : (s.store a v).pre = s.pre := (s.store_busOnly a v).pre
@[simp] theorem State.store_latches : (s.store a v).latches = s.latches := (s.store_busOnly a v).latches
@[simp] theorem State.store_progress : (s.store a v).progress = s.progress := (s.store_busOnly a v).progress
@[simp] theorem State.store_maxMode : (s.store a v).env.maxMode = s.env.maxMode := (s.store_busOnly a v).maxMode
@[simp] theorem State.store_map : (s.store a v).env.map = s.env.map := (s.store_busOnly a v).map
@[simp] theorem State.store_intr : (s.store a v).env.intr = s.env.intr := (s.store_busOnly a v).intr
@[simp] theorem State.store_testLow : (s.store a v).env.testLow = s.env.testLow := (s.store_busOnly a v).testLow
@[simp] theorem State.store_inputs : (s.store a v).env.inputs = s.env.inputs := (s.store_busOnly a v).inputs
@[simp] theorem State.store_cutSome : (s.store a v).env.cut.isSome = s.env.cut.isSome := (s.store_busOnly a v).cutSome
end

section
variable (s : State) (ws : List MasterWrite)
@[simp] theorem State.masterWrites_regs : (s.masterWrites ws).regs = s.regs := (s.masterWrites_busOnly ws).regs
@[simp] theorem State.masterWrites_segs : (s.masterWrites ws).segs = s.segs := (s.masterWrites_busOnly ws).segs
@[simp] theorem State.masterWrites_ip : (s.masterWrites ws).ip = s.ip := (s.masterWrites_busOnly ws).ip
@[simp] theorem State.masterWrites_flags : (s.masterWrites ws).flags = s.flags := (s.masterWrites_busOnly ws).flags
@[simp] theorem State.masterWrites_pre : (s.masterWrites ws).pre = s.pre := (s.masterWrites_busOnly ws).pre
@[simp] theorem State.masterWrites_latches : (s.masterWrites ws).latches = s.latches := (s.masterWrites_busOnly ws).latches
@[simp] theorem State.masterWrites_progress : (s.masterWrites ws).progress = s.progress := (s.masterWrites_busOnly ws).progress
@[simp] theorem State.masterWrites_maxMode : (s.masterWrites ws).env.maxMode = s.env.maxMode := (s.masterWrites_busOnly ws).maxMode
@[simp] theorem State.masterWrites_map : (s.masterWrites ws).env.map = s.env.map := (s.masterWrites_busOnly ws).map
@[simp] theorem State.masterWrites_intr : (s.masterWrites ws).env.intr = s.env.intr := (s.masterWrites_busOnly ws).intr
@[simp] theorem State.masterWrites_testLow : (s.masterWrites ws).env.testLow = s.env.testLow := (s.masterWrites_busOnly ws).testLow
@[simp] theorem State.masterWrites_inputs : (s.masterWrites ws).env.inputs = s.env.inputs := (s.masterWrites_busOnly ws).inputs
@[simp] theorem State.masterWrites_cutSome : (s.masterWrites ws).env.cut.isSome = s.env.cut.isSome := (s.masterWrites_busOnly ws).cutSome
end

section
variable (s : State)
@[simp] theorem State.gap_regs : s.gap.regs = s.regs := s.gap_busOnly.regs
@[simp] theorem State.gap_segs : s.gap.segs = s.segs := s.gap_busOnly.segs
@[simp] theorem State.gap_ip : s.gap.ip = s.ip := s.gap_busOnly.ip
@[simp] theorem State.gap_flags : s.gap.flags = s.flags := s.gap_busOnly.flags
@[simp] theorem State.gap_pre : s.gap.pre = s.pre := s.gap_busOnly.pre
@[simp] theorem State.gap_latches : s.gap.latches = s.latches := s.gap_busOnly.latches
@[simp] theorem State.gap_progress : s.gap.progress = s.progress := s.gap_busOnly.progress
@[simp] theorem State.gap_maxMode : s.gap.env.maxMode = s.env.maxMode := s.gap_busOnly.maxMode
@[simp] theorem State.gap_map : s.gap.env.map = s.env.map := s.gap_busOnly.map
@[simp] theorem State.gap_intr : s.gap.env.intr = s.env.intr := s.gap_busOnly.intr
@[simp] theorem State.gap_testLow : s.gap.env.testLow = s.env.testLow := s.gap_busOnly.testLow
@[simp] theorem State.gap_inputs : s.gap.env.inputs = s.env.inputs := s.gap_busOnly.inputs
@[simp] theorem State.gap_cutSome : s.gap.env.cut.isSome = s.env.cut.isSome := s.gap_busOnly.cutSome
end

section
variable (s : State) (a : Nat) (v : Byte)
@[simp] theorem State.writeByte_regs : (s.writeByte a v).regs = s.regs := (s.writeByte_busOnly a v).regs
@[simp] theorem State.writeByte_segs : (s.writeByte a v).segs = s.segs := (s.writeByte_busOnly a v).segs
@[simp] theorem State.writeByte_ip : (s.writeByte a v).ip = s.ip := (s.writeByte_busOnly a v).ip
@[simp] theorem State.writeByte_flags : (s.writeByte a v).flags = s.flags := (s.writeByte_busOnly a v).flags
@[simp] theorem State.writeByte_pre : (s.writeByte a v).pre = s.pre := (s.writeByte_busOnly a v).pre
@[simp] theorem State.writeByte_latches : (s.writeByte a v).latches = s.latches := (s.writeByte_busOnly a v).latches
@[simp] theorem State.writeByte_progress : (s.writeByte a v).progress = s.progress := (s.writeByte_busOnly a v).progress
@[simp] theorem State.writeByte_maxMode : (s.writeByte a v).env.maxMode = s.env.maxMode := (s.writeByte_busOnly a v).maxMode
@[simp] theorem State.writeByte_map : (s.writeByte a v).env.map = s.env.map := (s.writeByte_busOnly a v).map
@[simp] theorem State.writeByte_intr : (s.writeByte a v).env.intr = s.env.intr := (s.writeByte_busOnly a v).intr
@[simp] theorem State.writeByte_testLow : (s.writeByte a v).env.testLow = s.env.testLow := (s.writeByte_busOnly a v).testLow
@[simp] theorem State.writeByte_inputs : (s.writeByte a v).env.inputs = s.env.inputs := (s.writeByte_busOnly a v).inputs
@[simp] theorem State.writeByte_cutSome : (s.writeByte a v).env.cut.isSome = s.env.cut.isSome := (s.writeByte_busOnly a v).cutSome
end

section
variable (s : State) (sg off : Word) (w : Width)
@[simp] theorem State.afterSeg_regs : (s.afterSeg sg off w).regs = s.regs := (s.afterSeg_busOnly sg off w).regs
@[simp] theorem State.afterSeg_segs : (s.afterSeg sg off w).segs = s.segs := (s.afterSeg_busOnly sg off w).segs
@[simp] theorem State.afterSeg_ip : (s.afterSeg sg off w).ip = s.ip := (s.afterSeg_busOnly sg off w).ip
@[simp] theorem State.afterSeg_flags : (s.afterSeg sg off w).flags = s.flags := (s.afterSeg_busOnly sg off w).flags
@[simp] theorem State.afterSeg_pre : (s.afterSeg sg off w).pre = s.pre := (s.afterSeg_busOnly sg off w).pre
@[simp] theorem State.afterSeg_latches : (s.afterSeg sg off w).latches = s.latches := (s.afterSeg_busOnly sg off w).latches
@[simp] theorem State.afterSeg_progress : (s.afterSeg sg off w).progress = s.progress := (s.afterSeg_busOnly sg off w).progress
@[simp] theorem State.afterSeg_maxMode : (s.afterSeg sg off w).env.maxMode = s.env.maxMode := (s.afterSeg_busOnly sg off w).maxMode
@[simp] theorem State.afterSeg_map : (s.afterSeg sg off w).env.map = s.env.map := (s.afterSeg_busOnly sg off w).map
@[simp] theorem State.afterSeg_intr : (s.afterSeg sg off w).env.intr = s.env.intr := (s.afterSeg_busOnly sg off w).intr
@[simp] theorem State.afterSeg_testLow : (s.afterSeg sg off w).env.testLow = s.env.testLow := (s.afterSeg_busOnly sg off w).testLow
@[simp] theorem State.afterSeg_inputs : (s.afterSeg sg off w).env.inputs = s.env.inputs := (s.afterSeg_busOnly sg off w).inputs
@[simp] theorem State.afterSeg_cutSome : (s.afterSeg sg off w).env.cut.isSome = s.env.cut.isSome := (s.afterSeg_busOnly sg off w).cutSome
end

section
variable (s : State) (sg off : Word) (w : Width) (v : BitVec w.bits)
@[simp] theorem State.writeSeg_regs : (s.writeSeg sg off w v).regs = s.regs := (s.writeSeg_busOnly sg off w v).regs
@[simp] theorem State.writeSeg_segs : (s.writeSeg sg off w v).segs = s.segs := (s.writeSeg_busOnly sg off w v).segs
@[simp] theorem State.writeSeg_ip : (s.writeSeg sg off w v).ip = s.ip := (s.writeSeg_busOnly sg off w v).ip
@[simp] theorem State.writeSeg_flags : (s.writeSeg sg off w v).flags = s.flags := (s.writeSeg_busOnly sg off w v).flags
@[simp] theorem State.writeSeg_pre : (s.writeSeg sg off w v).pre = s.pre := (s.writeSeg_busOnly sg off w v).pre
@[simp] theorem State.writeSeg_latches : (s.writeSeg sg off w v).latches = s.latches := (s.writeSeg_busOnly sg off w v).latches
@[simp] theorem State.writeSeg_progress : (s.writeSeg sg off w v).progress = s.progress := (s.writeSeg_busOnly sg off w v).progress
@[simp] theorem State.writeSeg_maxMode : (s.writeSeg sg off w v).env.maxMode = s.env.maxMode := (s.writeSeg_busOnly sg off w v).maxMode
@[simp] theorem State.writeSeg_map : (s.writeSeg sg off w v).env.map = s.env.map := (s.writeSeg_busOnly sg off w v).map
@[simp] theorem State.writeSeg_intr : (s.writeSeg sg off w v).env.intr = s.env.intr := (s.writeSeg_busOnly sg off w v).intr
@[simp] theorem State.writeSeg_testLow : (s.writeSeg sg off w v).env.testLow = s.env.testLow := (s.writeSeg_busOnly sg off w v).testLow
@[simp] theorem State.writeSeg_inputs : (s.writeSeg sg off w v).env.inputs = s.env.inputs := (s.writeSeg_busOnly sg off w v).inputs
@[simp] theorem State.writeSeg_cutSome : (s.writeSeg sg off w v).env.cut.isSome = s.env.cut.isSome := (s.writeSeg_busOnly sg off w v).cutSome
end

section
variable (s : State) (type : Byte)
@[simp] theorem State.afterVector_regs : (s.afterVector type).regs = s.regs := (s.afterVector_busOnly type).regs
@[simp] theorem State.afterVector_segs : (s.afterVector type).segs = s.segs := (s.afterVector_busOnly type).segs
@[simp] theorem State.afterVector_ip : (s.afterVector type).ip = s.ip := (s.afterVector_busOnly type).ip
@[simp] theorem State.afterVector_flags : (s.afterVector type).flags = s.flags := (s.afterVector_busOnly type).flags
@[simp] theorem State.afterVector_pre : (s.afterVector type).pre = s.pre := (s.afterVector_busOnly type).pre
@[simp] theorem State.afterVector_latches : (s.afterVector type).latches = s.latches := (s.afterVector_busOnly type).latches
@[simp] theorem State.afterVector_progress : (s.afterVector type).progress = s.progress := (s.afterVector_busOnly type).progress
@[simp] theorem State.afterVector_maxMode : (s.afterVector type).env.maxMode = s.env.maxMode := (s.afterVector_busOnly type).maxMode
@[simp] theorem State.afterVector_map : (s.afterVector type).env.map = s.env.map := (s.afterVector_busOnly type).map
@[simp] theorem State.afterVector_intr : (s.afterVector type).env.intr = s.env.intr := (s.afterVector_busOnly type).intr
@[simp] theorem State.afterVector_testLow : (s.afterVector type).env.testLow = s.env.testLow := (s.afterVector_busOnly type).testLow
@[simp] theorem State.afterVector_inputs : (s.afterVector type).env.inputs = s.env.inputs := (s.afterVector_busOnly type).inputs
@[simp] theorem State.afterVector_cutSome : (s.afterVector type).env.cut.isSome = s.env.cut.isSome := (s.afterVector_busOnly type).cutSome
end

section
variable (s : State) (w : Width) (rm : Rm)
@[simp] theorem State.afterRm_regs : (s.afterRm w rm).regs = s.regs := (s.afterRm_busOnly w rm).regs
@[simp] theorem State.afterRm_segs : (s.afterRm w rm).segs = s.segs := (s.afterRm_busOnly w rm).segs
@[simp] theorem State.afterRm_ip : (s.afterRm w rm).ip = s.ip := (s.afterRm_busOnly w rm).ip
@[simp] theorem State.afterRm_flags : (s.afterRm w rm).flags = s.flags := (s.afterRm_busOnly w rm).flags
@[simp] theorem State.afterRm_pre : (s.afterRm w rm).pre = s.pre := (s.afterRm_busOnly w rm).pre
@[simp] theorem State.afterRm_latches : (s.afterRm w rm).latches = s.latches := (s.afterRm_busOnly w rm).latches
@[simp] theorem State.afterRm_progress : (s.afterRm w rm).progress = s.progress := (s.afterRm_busOnly w rm).progress
@[simp] theorem State.afterRm_maxMode : (s.afterRm w rm).env.maxMode = s.env.maxMode := (s.afterRm_busOnly w rm).maxMode
@[simp] theorem State.afterRm_map : (s.afterRm w rm).env.map = s.env.map := (s.afterRm_busOnly w rm).map
@[simp] theorem State.afterRm_intr : (s.afterRm w rm).env.intr = s.env.intr := (s.afterRm_busOnly w rm).intr
@[simp] theorem State.afterRm_testLow : (s.afterRm w rm).env.testLow = s.env.testLow := (s.afterRm_busOnly w rm).testLow
@[simp] theorem State.afterRm_inputs : (s.afterRm w rm).env.inputs = s.env.inputs := (s.afterRm_busOnly w rm).inputs
@[simp] theorem State.afterRm_cutSome : (s.afterRm w rm).env.cut.isSome = s.env.cut.isSome := (s.afterRm_busOnly w rm).cutSome
end

section
variable (s : State) (m : MemRef)
@[simp] theorem State.afterFar_regs : (s.afterFar m).regs = s.regs := (s.afterFar_busOnly m).regs
@[simp] theorem State.afterFar_segs : (s.afterFar m).segs = s.segs := (s.afterFar_busOnly m).segs
@[simp] theorem State.afterFar_ip : (s.afterFar m).ip = s.ip := (s.afterFar_busOnly m).ip
@[simp] theorem State.afterFar_flags : (s.afterFar m).flags = s.flags := (s.afterFar_busOnly m).flags
@[simp] theorem State.afterFar_pre : (s.afterFar m).pre = s.pre := (s.afterFar_busOnly m).pre
@[simp] theorem State.afterFar_latches : (s.afterFar m).latches = s.latches := (s.afterFar_busOnly m).latches
@[simp] theorem State.afterFar_progress : (s.afterFar m).progress = s.progress := (s.afterFar_busOnly m).progress
@[simp] theorem State.afterFar_maxMode : (s.afterFar m).env.maxMode = s.env.maxMode := (s.afterFar_busOnly m).maxMode
@[simp] theorem State.afterFar_map : (s.afterFar m).env.map = s.env.map := (s.afterFar_busOnly m).map
@[simp] theorem State.afterFar_intr : (s.afterFar m).env.intr = s.env.intr := (s.afterFar_busOnly m).intr
@[simp] theorem State.afterFar_testLow : (s.afterFar m).env.testLow = s.env.testLow := (s.afterFar_busOnly m).testLow
@[simp] theorem State.afterFar_inputs : (s.afterFar m).env.inputs = s.env.inputs := (s.afterFar_busOnly m).inputs
@[simp] theorem State.afterFar_cutSome : (s.afterFar m).env.cut.isSome = s.env.cut.isSome := (s.afterFar_busOnly m).cutSome
end

section
variable (s : State) (w : Width)
@[simp] theorem State.afterSource_regs : (s.afterSource w).regs = s.regs := (s.afterSource_busOnly w).regs
@[simp] theorem State.afterSource_segs : (s.afterSource w).segs = s.segs := (s.afterSource_busOnly w).segs
@[simp] theorem State.afterSource_ip : (s.afterSource w).ip = s.ip := (s.afterSource_busOnly w).ip
@[simp] theorem State.afterSource_flags : (s.afterSource w).flags = s.flags := (s.afterSource_busOnly w).flags
@[simp] theorem State.afterSource_pre : (s.afterSource w).pre = s.pre := (s.afterSource_busOnly w).pre
@[simp] theorem State.afterSource_latches : (s.afterSource w).latches = s.latches := (s.afterSource_busOnly w).latches
@[simp] theorem State.afterSource_progress : (s.afterSource w).progress = s.progress := (s.afterSource_busOnly w).progress
@[simp] theorem State.afterSource_maxMode : (s.afterSource w).env.maxMode = s.env.maxMode := (s.afterSource_busOnly w).maxMode
@[simp] theorem State.afterSource_map : (s.afterSource w).env.map = s.env.map := (s.afterSource_busOnly w).map
@[simp] theorem State.afterSource_intr : (s.afterSource w).env.intr = s.env.intr := (s.afterSource_busOnly w).intr
@[simp] theorem State.afterSource_testLow : (s.afterSource w).env.testLow = s.env.testLow := (s.afterSource_busOnly w).testLow
@[simp] theorem State.afterSource_inputs : (s.afterSource w).env.inputs = s.env.inputs := (s.afterSource_busOnly w).inputs
@[simp] theorem State.afterSource_cutSome : (s.afterSource w).env.cut.isSome = s.env.cut.isSome := (s.afterSource_busOnly w).cutSome
end

section
variable (s : State) (w : Width)
@[simp] theorem State.afterDest_regs : (s.afterDest w).regs = s.regs := (s.afterDest_busOnly w).regs
@[simp] theorem State.afterDest_segs : (s.afterDest w).segs = s.segs := (s.afterDest_busOnly w).segs
@[simp] theorem State.afterDest_ip : (s.afterDest w).ip = s.ip := (s.afterDest_busOnly w).ip
@[simp] theorem State.afterDest_flags : (s.afterDest w).flags = s.flags := (s.afterDest_busOnly w).flags
@[simp] theorem State.afterDest_pre : (s.afterDest w).pre = s.pre := (s.afterDest_busOnly w).pre
@[simp] theorem State.afterDest_latches : (s.afterDest w).latches = s.latches := (s.afterDest_busOnly w).latches
@[simp] theorem State.afterDest_progress : (s.afterDest w).progress = s.progress := (s.afterDest_busOnly w).progress
@[simp] theorem State.afterDest_maxMode : (s.afterDest w).env.maxMode = s.env.maxMode := (s.afterDest_busOnly w).maxMode
@[simp] theorem State.afterDest_map : (s.afterDest w).env.map = s.env.map := (s.afterDest_busOnly w).map
@[simp] theorem State.afterDest_intr : (s.afterDest w).env.intr = s.env.intr := (s.afterDest_busOnly w).intr
@[simp] theorem State.afterDest_testLow : (s.afterDest w).env.testLow = s.env.testLow := (s.afterDest_busOnly w).testLow
@[simp] theorem State.afterDest_inputs : (s.afterDest w).env.inputs = s.env.inputs := (s.afterDest_busOnly w).inputs
@[simp] theorem State.afterDest_cutSome : (s.afterDest w).env.cut.isSome = s.env.cut.isSome := (s.afterDest_busOnly w).cutSome
end

section
variable (s : State) (p : Word) (w : Width) (v : BitVec w.bits)
@[simp] theorem State.ioWrite_regs : (s.ioWrite p w v).regs = s.regs := (s.ioWrite_busOnly p w v).regs
@[simp] theorem State.ioWrite_segs : (s.ioWrite p w v).segs = s.segs := (s.ioWrite_busOnly p w v).segs
@[simp] theorem State.ioWrite_ip : (s.ioWrite p w v).ip = s.ip := (s.ioWrite_busOnly p w v).ip
@[simp] theorem State.ioWrite_flags : (s.ioWrite p w v).flags = s.flags := (s.ioWrite_busOnly p w v).flags
@[simp] theorem State.ioWrite_pre : (s.ioWrite p w v).pre = s.pre := (s.ioWrite_busOnly p w v).pre
@[simp] theorem State.ioWrite_latches : (s.ioWrite p w v).latches = s.latches := (s.ioWrite_busOnly p w v).latches
@[simp] theorem State.ioWrite_progress : (s.ioWrite p w v).progress = s.progress := (s.ioWrite_busOnly p w v).progress
@[simp] theorem State.ioWrite_maxMode : (s.ioWrite p w v).env.maxMode = s.env.maxMode := (s.ioWrite_busOnly p w v).maxMode
@[simp] theorem State.ioWrite_map : (s.ioWrite p w v).env.map = s.env.map := (s.ioWrite_busOnly p w v).map
@[simp] theorem State.ioWrite_intr : (s.ioWrite p w v).env.intr = s.env.intr := (s.ioWrite_busOnly p w v).intr
@[simp] theorem State.ioWrite_testLow : (s.ioWrite p w v).env.testLow = s.env.testLow := (s.ioWrite_busOnly p w v).testLow
@[simp] theorem State.ioWrite_inputs : (s.ioWrite p w v).env.inputs = s.env.inputs := (s.ioWrite_busOnly p w v).inputs
@[simp] theorem State.ioWrite_cutSome : (s.ioWrite p w v).env.cut.isSome = s.env.cut.isSome := (s.ioWrite_busOnly p w v).cutSome
end

section
variable (s : State)
@[simp] theorem State.afterAck_regs : s.afterAck.regs = s.regs := s.afterAck_busOnly.regs
@[simp] theorem State.afterAck_segs : s.afterAck.segs = s.segs := s.afterAck_busOnly.segs
@[simp] theorem State.afterAck_ip : s.afterAck.ip = s.ip := s.afterAck_busOnly.ip
@[simp] theorem State.afterAck_flags : s.afterAck.flags = s.flags := s.afterAck_busOnly.flags
@[simp] theorem State.afterAck_pre : s.afterAck.pre = s.pre := s.afterAck_busOnly.pre
@[simp] theorem State.afterAck_latches : s.afterAck.latches = s.latches := s.afterAck_busOnly.latches
@[simp] theorem State.afterAck_progress : s.afterAck.progress = s.progress := s.afterAck_busOnly.progress
@[simp] theorem State.afterAck_maxMode : s.afterAck.env.maxMode = s.env.maxMode := s.afterAck_busOnly.maxMode
@[simp] theorem State.afterAck_map : s.afterAck.env.map = s.env.map := s.afterAck_busOnly.map
@[simp] theorem State.afterAck_intr : s.afterAck.env.intr = s.env.intr := s.afterAck_busOnly.intr
@[simp] theorem State.afterAck_testLow : s.afterAck.env.testLow = s.env.testLow := s.afterAck_busOnly.testLow
@[simp] theorem State.afterAck_inputs : s.afterAck.env.inputs = s.env.inputs := s.afterAck_busOnly.inputs
@[simp] theorem State.afterAck_cutSome : s.afterAck.env.cut.isSome = s.env.cut.isSome := s.afterAck_busOnly.cutSome
end

section
variable (s : State) (p : Word) (w : Width)
@[simp] theorem State.ioRead_regs : (s.ioRead p w).2.regs = s.regs := (s.ioRead_busOnly p w).regs
@[simp] theorem State.ioRead_segs : (s.ioRead p w).2.segs = s.segs := (s.ioRead_busOnly p w).segs
@[simp] theorem State.ioRead_ip : (s.ioRead p w).2.ip = s.ip := (s.ioRead_busOnly p w).ip
@[simp] theorem State.ioRead_flags : (s.ioRead p w).2.flags = s.flags := (s.ioRead_busOnly p w).flags
@[simp] theorem State.ioRead_pre : (s.ioRead p w).2.pre = s.pre := (s.ioRead_busOnly p w).pre
@[simp] theorem State.ioRead_latches : (s.ioRead p w).2.latches = s.latches := (s.ioRead_busOnly p w).latches
@[simp] theorem State.ioRead_progress : (s.ioRead p w).2.progress = s.progress := (s.ioRead_busOnly p w).progress
@[simp] theorem State.ioRead_maxMode : (s.ioRead p w).2.env.maxMode = s.env.maxMode := (s.ioRead_busOnly p w).maxMode
@[simp] theorem State.ioRead_map : (s.ioRead p w).2.env.map = s.env.map := (s.ioRead_busOnly p w).map
@[simp] theorem State.ioRead_intr : (s.ioRead p w).2.env.intr = s.env.intr := (s.ioRead_busOnly p w).intr
@[simp] theorem State.ioRead_testLow : (s.ioRead p w).2.env.testLow = s.env.testLow := (s.ioRead_busOnly p w).testLow
@[simp] theorem State.ioRead_inputs : (s.ioRead p w).2.env.inputs = s.env.inputs := (s.ioRead_busOnly p w).inputs
@[simp] theorem State.ioRead_cutSome : (s.ioRead p w).2.env.cut.isSome = s.env.cut.isSome := (s.ioRead_busOnly p w).cutSome
end

section
variable (s : State) (v : Word)
@[simp] theorem State.push16_regs : (s.push16 v).regs = s.regs.set16 .spAh (s.regs.sp - 2) := (s.push16_busOnly v).regs
@[simp] theorem State.push16_segs : (s.push16 v).segs = s.segs := (s.push16_busOnly v).segs
@[simp] theorem State.push16_ip : (s.push16 v).ip = s.ip := (s.push16_busOnly v).ip
@[simp] theorem State.push16_flags : (s.push16 v).flags = s.flags := (s.push16_busOnly v).flags
@[simp] theorem State.push16_pre : (s.push16 v).pre = s.pre := (s.push16_busOnly v).pre
@[simp] theorem State.push16_latches : (s.push16 v).latches = s.latches := (s.push16_busOnly v).latches
@[simp] theorem State.push16_progress : (s.push16 v).progress = s.progress := (s.push16_busOnly v).progress
@[simp] theorem State.push16_maxMode : (s.push16 v).env.maxMode = s.env.maxMode := (s.push16_busOnly v).maxMode
@[simp] theorem State.push16_map : (s.push16 v).env.map = s.env.map := (s.push16_busOnly v).map
@[simp] theorem State.push16_intr : (s.push16 v).env.intr = s.env.intr := (s.push16_busOnly v).intr
@[simp] theorem State.push16_testLow : (s.push16 v).env.testLow = s.env.testLow := (s.push16_busOnly v).testLow
@[simp] theorem State.push16_inputs : (s.push16 v).env.inputs = s.env.inputs := (s.push16_busOnly v).inputs
@[simp] theorem State.push16_cutSome : (s.push16 v).env.cut.isSome = s.env.cut.isSome := (s.push16_busOnly v).cutSome
end

section
variable (s : State)
@[simp] theorem State.drop16_regs : s.drop16.regs = s.regs.set16 .spAh (s.regs.sp + 2) := by
  show (s.afterSeg s.segs.ss s.regs.sp .word).regs.set16 .spAh _ = _
  rw [State.afterSeg_regs]
@[simp] theorem State.drop16_segs : s.drop16.segs = s.segs := s.afterSeg_segs _ _ _
@[simp] theorem State.drop16_ip : s.drop16.ip = s.ip := s.afterSeg_ip _ _ _
@[simp] theorem State.drop16_flags : s.drop16.flags = s.flags := s.afterSeg_flags _ _ _
@[simp] theorem State.drop16_pre : s.drop16.pre = s.pre := s.afterSeg_pre _ _ _
@[simp] theorem State.drop16_latches : s.drop16.latches = s.latches := s.afterSeg_latches _ _ _
@[simp] theorem State.drop16_progress : s.drop16.progress = s.progress := s.afterSeg_progress _ _ _
@[simp] theorem State.drop16_maxMode : s.drop16.env.maxMode = s.env.maxMode := s.afterSeg_maxMode _ _ _
@[simp] theorem State.drop16_map : s.drop16.env.map = s.env.map := s.afterSeg_map _ _ _
@[simp] theorem State.drop16_intr : s.drop16.env.intr = s.env.intr := s.afterSeg_intr _ _ _
@[simp] theorem State.drop16_testLow : s.drop16.env.testLow = s.env.testLow := s.afterSeg_testLow _ _ _
@[simp] theorem State.drop16_inputs : s.drop16.env.inputs = s.env.inputs := s.afterSeg_inputs _ _ _
@[simp] theorem State.drop16_cutSome : s.drop16.env.cut.isSome = s.env.cut.isSome := s.afterSeg_cutSome _ _ _
end

section
variable (s : State) (r : Reg)
@[simp] theorem State.pushReg_regs : (s.pushReg r).regs = s.regs.set16 .spAh (s.regs.sp - 2) := by
  cases r <;> exact s.push16_regs _
@[simp] theorem State.pushReg_segs : (s.pushReg r).segs = s.segs := by cases r <;> exact s.push16_segs _
@[simp] theorem State.pushReg_ip : (s.pushReg r).ip = s.ip := by cases r <;> exact s.push16_ip _
@[simp] theorem State.pushReg_flags : (s.pushReg r).flags = s.flags := by cases r <;> exact s.push16_flags _
@[simp] theorem State.pushReg_pre : (s.pushReg r).pre = s.pre := by cases r <;> exact s.push16_pre _
@[simp] theorem State.pushReg_latches : (s.pushReg r).latches = s.latches := by cases r <;> exact s.push16_latches _
@[simp] theorem State.pushReg_progress : (s.pushReg r).progress = s.progress := by cases r <;> exact s.push16_progress _
@[simp] theorem State.pushReg_maxMode : (s.pushReg r).env.maxMode = s.env.maxMode := by cases r <;> exact s.push16_maxMode _
@[simp] theorem State.pushReg_map : (s.pushReg r).env.map = s.env.map := by cases r <;> exact s.push16_map _
@[simp] theorem State.pushReg_intr : (s.pushReg r).env.intr = s.env.intr := by cases r <;> exact s.push16_intr _
@[simp] theorem State.pushReg_testLow : (s.pushReg r).env.testLow = s.env.testLow := by cases r <;> exact s.push16_testLow _
@[simp] theorem State.pushReg_inputs : (s.pushReg r).env.inputs = s.env.inputs := by cases r <;> exact s.push16_inputs _
@[simp] theorem State.pushReg_cutSome : (s.pushReg r).env.cut.isSome = s.env.cut.isSome := by cases r <;> exact s.push16_cutSome _
end

section
variable (s : State) (w : Width) (rm : Rm) (v : BitVec w.bits)
@[simp] theorem State.writeRm_segs : (s.writeRm w rm v).segs = s.segs := by
  cases rm <;> first | rfl | exact s.writeSeg_segs _ _ w v
@[simp] theorem State.writeRm_ip : (s.writeRm w rm v).ip = s.ip := by
  cases rm <;> first | rfl | exact s.writeSeg_ip _ _ w v
@[simp] theorem State.writeRm_flags : (s.writeRm w rm v).flags = s.flags := by
  cases rm <;> first | rfl | exact s.writeSeg_flags _ _ w v
@[simp] theorem State.writeRm_pre : (s.writeRm w rm v).pre = s.pre := by
  cases rm <;> first | rfl | exact s.writeSeg_pre _ _ w v
@[simp] theorem State.writeRm_latches : (s.writeRm w rm v).latches = s.latches := by
  cases rm <;> first | rfl | exact s.writeSeg_latches _ _ w v
@[simp] theorem State.writeRm_progress : (s.writeRm w rm v).progress = s.progress := by
  cases rm <;> first | rfl | exact s.writeSeg_progress _ _ w v
@[simp] theorem State.writeRm_maxMode : (s.writeRm w rm v).env.maxMode = s.env.maxMode := by
  cases rm <;> first | rfl | exact s.writeSeg_maxMode _ _ w v
@[simp] theorem State.writeRm_map : (s.writeRm w rm v).env.map = s.env.map := by
  cases rm <;> first | rfl | exact s.writeSeg_map _ _ w v
@[simp] theorem State.writeRm_intr : (s.writeRm w rm v).env.intr = s.env.intr := by
  cases rm <;> first | rfl | exact s.writeSeg_intr _ _ w v
@[simp] theorem State.writeRm_testLow : (s.writeRm w rm v).env.testLow = s.env.testLow := by
  cases rm <;> first | rfl | exact s.writeSeg_testLow _ _ w v
@[simp] theorem State.writeRm_inputs : (s.writeRm w rm v).env.inputs = s.env.inputs := by
  cases rm <;> first | rfl | exact s.writeSeg_inputs _ _ w v
@[simp] theorem State.writeRm_cutSome : (s.writeRm w rm v).env.cut.isSome = s.env.cut.isSome := by
  cases rm <;> first | rfl | exact s.writeSeg_cutSome _ _ w v
end

/-- A store to a memory operand changes no register. -/
@[simp] theorem State.writeRm_mem_regs (s : State) (w : Width) (m : MemRef) (v : BitVec w.bits) :
    (s.writeRm w (.mem m) v).regs = s.regs := s.writeSeg_regs _ _ w v

/-! ## What the memory map says does not change -/

theorem BusOnly.kindAt {s t : State} (h : BusOnly s t) (a : Nat) : t.kindAt a = s.kindAt a := by
  unfold State.kindAt; rw [h.map]

theorem BusOnly.busLocked {s t : State} (h : BusOnly s t) : t.busLocked = s.busLocked := by
  unfold State.busLocked; rw [h.pre, h.maxMode]

theorem State.kindAt_congr {s t : State} (h : t.env = s.env) (a : Nat) : t.kindAt a = s.kindAt a := by
  unfold State.kindAt; rw [h]

/-! ## The canonical form of memory -/

theorem State.store_wf (s : State) (a : Nat) (v : Byte) (h : Memory.wf s.mem) (ha : a < 2 ^ 20) :
    Memory.wf (s.store a v).mem := by
  unfold State.store
  split
  · exact Memory.write_wf s.mem a v h ha
  · exact h

theorem State.masterWrites_wf (s : State) (ws : List MasterWrite) (h : Memory.wf s.mem) :
    Memory.wf (s.masterWrites ws).mem := by
  induction ws generalizing s with
  | nil => exact h
  | cons w ws ih => exact ih _ (s.store_wf _ _ h w.addr.isLt)

theorem State.gap_wf (s : State) (h : Memory.wf s.mem) : Memory.wf s.gap.mem := by
  unfold State.gap
  split
  · exact h
  · split
    · exact h
    · exact State.masterWrites_wf _ _ h

theorem State.busCycle_wf (s : State) (f : State → State) (h : Memory.wf s.mem)
    (hf : ∀ u : State, Memory.wf u.mem → Memory.wf (f u).mem) : Memory.wf (s.busCycle f).mem := by
  unfold State.busCycle
  split
  · exact hf s h
  · exact h
  · exact hf _ h

theorem State.afterRead_wf (s : State) (a : Nat) (h : Memory.wf s.mem) : Memory.wf (s.afterRead a).mem := by
  unfold State.afterRead
  split
  · exact h
  · exact h
  · exact h
  · exact s.busCycle_wf _ h fun _ hu => hu

theorem State.writeByte_wf (s : State) (a : Nat) (v : Byte) (h : Memory.wf s.mem) (ha : a < 2 ^ 20) :
    Memory.wf (s.writeByte a v).mem := by
  refine s.busCycle_wf _ h fun u hu => ?_
  split
  · exact hu
  · exact u.store_wf a v hu ha

theorem State.afterSeg_wf (s : State) (sg off : Word) (w : Width) (h : Memory.wf s.mem) :
    Memory.wf (s.afterSeg sg off w).mem := by
  cases w
  · exact State.gap_wf _ (s.afterRead_wf _ h)
  · exact State.gap_wf _ (State.afterRead_wf _ _ (s.afterRead_wf _ h))

theorem State.writeSeg_wf (s : State) (sg off : Word) (w : Width) (v : BitVec w.bits) (h : Memory.wf s.mem) :
    Memory.wf (s.writeSeg sg off w v).mem := by
  cases w
  · exact State.gap_wf _ (s.writeByte_wf _ _ h (phys_lt _ _))
  · exact State.gap_wf _ (State.writeByte_wf _ _ _ (s.writeByte_wf _ _ h (phys_lt _ _)) (phys_lt _ _))

theorem State.afterPhys16_wf (s : State) (a : Nat) (h : Memory.wf s.mem) : Memory.wf (s.afterPhys16 a).mem :=
  State.gap_wf _ (State.afterRead_wf _ _ (s.afterRead_wf _ h))

theorem State.afterVector_wf (s : State) (type : Byte) (h : Memory.wf s.mem) : Memory.wf (s.afterVector type).mem :=
  State.afterPhys16_wf _ _ (s.afterPhys16_wf _ h)

theorem State.afterRm_wf (s : State) (w : Width) (rm : Rm) (h : Memory.wf s.mem) : Memory.wf (s.afterRm w rm).mem := by
  cases rm with
  | reg r => exact h
  | mem m => exact s.afterSeg_wf _ _ w h

theorem State.afterFar_wf (s : State) (m : MemRef) (h : Memory.wf s.mem) : Memory.wf (s.afterFar m).mem :=
  State.afterSeg_wf _ _ _ _ (s.afterSeg_wf _ _ _ h)

theorem State.push16_wf (s : State) (v : Word) (h : Memory.wf s.mem) : Memory.wf (s.push16 v).mem :=
  State.writeSeg_wf _ _ _ _ _ h

theorem State.pushReg_wf (s : State) (r : Reg) (h : Memory.wf s.mem) : Memory.wf (s.pushReg r).mem := by
  cases r <;> exact s.push16_wf _ h

theorem State.drop16_wf (s : State) (h : Memory.wf s.mem) : Memory.wf s.drop16.mem := s.afterSeg_wf _ _ _ h

theorem State.writeRm_wf (s : State) (w : Width) (rm : Rm) (v : BitVec w.bits) (h : Memory.wf s.mem) :
    Memory.wf (s.writeRm w rm v).mem := by
  cases rm with
  | reg r => exact h
  | mem m => exact s.writeSeg_wf _ _ w v h

end Sys2Proof.Machine
end

