-- ==== Sys2Proof/Laws/Ops.lean ====
section
/-! SUPPORT. What each shared operation leaves unchanged, field by field, and what it stores. -/

namespace Sys2Proof.Machine

/-! ## Registers -/

section
variable (s : State) (w : Width) (r : Reg) (v : BitVec w.bits)
@[simp] theorem State.setReg_segs : (s.setReg w r v).segs = s.segs := rfl
@[simp] theorem State.setReg_ip : (s.setReg w r v).ip = s.ip := rfl
@[simp] theorem State.setReg_flags : (s.setReg w r v).flags = s.flags := rfl
@[simp] theorem State.setReg_mem : (s.setReg w r v).mem = s.mem := rfl
@[simp] theorem State.setReg_pre : (s.setReg w r v).pre = s.pre := rfl
@[simp] theorem State.setReg_latches : (s.setReg w r v).latches = s.latches := rfl
@[simp] theorem State.setReg_progress : (s.setReg w r v).progress = s.progress := rfl
@[simp] theorem State.setReg_env : (s.setReg w r v).env = s.env := rfl
@[simp] theorem State.setReg_stale : (s.setReg w r v).stale = s.stale := rfl
@[simp] theorem State.setReg_draws : (s.setReg w r v).draws = s.draws := rfl
end

section
variable (s : State) (r : Reg) (v : Word)
@[simp] theorem State.setReg16_segs : (s.setReg16 r v).segs = s.segs := rfl
@[simp] theorem State.setReg16_ip : (s.setReg16 r v).ip = s.ip := rfl
@[simp] theorem State.setReg16_flags : (s.setReg16 r v).flags = s.flags := rfl
@[simp] theorem State.setReg16_mem : (s.setReg16 r v).mem = s.mem := rfl
@[simp] theorem State.setReg16_pre : (s.setReg16 r v).pre = s.pre := rfl
@[simp] theorem State.setReg16_latches : (s.setReg16 r v).latches = s.latches := rfl
@[simp] theorem State.setReg16_progress : (s.setReg16 r v).progress = s.progress := rfl
@[simp] theorem State.setReg16_env : (s.setReg16 r v).env = s.env := rfl
@[simp] theorem State.setReg16_stale : (s.setReg16 r v).stale = s.stale := rfl
@[simp] theorem State.setReg16_draws : (s.setReg16 r v).draws = s.draws := rfl
end

section
variable (s : State) (i : SReg) (v : Word)
@[simp] theorem State.setSeg_regs : (s.setSeg i v).regs = s.regs := rfl
@[simp] theorem State.setSeg_ip : (s.setSeg i v).ip = s.ip := rfl
@[simp] theorem State.setSeg_flags : (s.setSeg i v).flags = s.flags := rfl
@[simp] theorem State.setSeg_mem : (s.setSeg i v).mem = s.mem := rfl
@[simp] theorem State.setSeg_pre : (s.setSeg i v).pre = s.pre := rfl
@[simp] theorem State.setSeg_latches : (s.setSeg i v).latches = s.latches := rfl
@[simp] theorem State.setSeg_progress : (s.setSeg i v).progress = s.progress := rfl
@[simp] theorem State.setSeg_env : (s.setSeg i v).env = s.env := rfl
@[simp] theorem State.setSeg_stale : (s.setSeg i v).stale = s.stale := rfl
@[simp] theorem State.setSeg_draws : (s.setSeg i v).draws = s.draws := rfl
end

section
variable (s : State) (w : Width) (v : BitVec w.bits)
@[simp] theorem State.setAcc_segs : (s.setAcc w v).segs = s.segs := rfl
@[simp] theorem State.setAcc_ip : (s.setAcc w v).ip = s.ip := rfl
@[simp] theorem State.setAcc_flags : (s.setAcc w v).flags = s.flags := rfl
@[simp] theorem State.setAcc_mem : (s.setAcc w v).mem = s.mem := rfl
@[simp] theorem State.setAcc_pre : (s.setAcc w v).pre = s.pre := rfl
@[simp] theorem State.setAcc_latches : (s.setAcc w v).latches = s.latches := rfl
@[simp] theorem State.setAcc_progress : (s.setAcc w v).progress = s.progress := rfl
@[simp] theorem State.setAcc_env : (s.setAcc w v).env = s.env := rfl
@[simp] theorem State.setAcc_stale : (s.setAcc w v).stale = s.stale := rfl
@[simp] theorem State.setAcc_draws : (s.setAcc w v).draws = s.draws := rfl
end

section
variable (s : State) (h l : Byte)
@[simp] theorem State.setAhAl_segs : (s.setAhAl h l).segs = s.segs := rfl
@[simp] theorem State.setAhAl_ip : (s.setAhAl h l).ip = s.ip := rfl
@[simp] theorem State.setAhAl_flags : (s.setAhAl h l).flags = s.flags := rfl
@[simp] theorem State.setAhAl_mem : (s.setAhAl h l).mem = s.mem := rfl
@[simp] theorem State.setAhAl_pre : (s.setAhAl h l).pre = s.pre := rfl
@[simp] theorem State.setAhAl_latches : (s.setAhAl h l).latches = s.latches := rfl
@[simp] theorem State.setAhAl_progress : (s.setAhAl h l).progress = s.progress := rfl
@[simp] theorem State.setAhAl_env : (s.setAhAl h l).env = s.env := rfl
@[simp] theorem State.setAhAl_stale : (s.setAhAl h l).stale = s.stale := rfl
@[simp] theorem State.setAhAl_draws : (s.setAhAl h l).draws = s.draws := rfl
end

@[simp] theorem State.setReg_regs (s : State) (w : Width) (r : Reg) (v : BitVec w.bits) :
    (s.setReg w r v).regs = s.regs.set w r v := rfl
@[simp] theorem State.setReg16_regs (s : State) (r : Reg) (v : Word) :
    (s.setReg16 r v).regs = s.regs.set16 r v := rfl
@[simp] theorem State.setSeg_segs (s : State) (i : SReg) (v : Word) : (s.setSeg i v).segs = s.segs.set i v := rfl
@[simp] theorem State.setAcc_regs (s : State) (w : Width) (v : BitVec w.bits) :
    (s.setAcc w v).regs = s.regs.set w .axAl v := rfl
@[simp] theorem State.setAhAl_regs (s : State) (h l : Byte) :
    (s.setAhAl h l).regs = s.regs.set16 .axAl (joinBytes h l) := rfl

/-! ## Control transfer -/

section
variable (s : State) (off : Word)
@[simp] theorem State.jumpNear_regs : (s.jumpNear off).regs = s.regs := rfl
@[simp] theorem State.jumpNear_segs : (s.jumpNear off).segs = s.segs := rfl
@[simp] theorem State.jumpNear_flags : (s.jumpNear off).flags = s.flags := rfl
@[simp] theorem State.jumpNear_mem : (s.jumpNear off).mem = s.mem := rfl
@[simp] theorem State.jumpNear_pre : (s.jumpNear off).pre = s.pre := rfl
@[simp] theorem State.jumpNear_latches : (s.jumpNear off).latches = s.latches := rfl
@[simp] theorem State.jumpNear_progress : (s.jumpNear off).progress = s.progress := rfl
@[simp] theorem State.jumpNear_env : (s.jumpNear off).env = s.env := rfl
@[simp] theorem State.jumpNear_draws : (s.jumpNear off).draws = s.draws := rfl
end

section
variable (s : State) (sg off : Word)
@[simp] theorem State.jumpFar_regs : (s.jumpFar sg off).regs = s.regs := rfl
@[simp] theorem State.jumpFar_flags : (s.jumpFar sg off).flags = s.flags := rfl
@[simp] theorem State.jumpFar_mem : (s.jumpFar sg off).mem = s.mem := rfl
@[simp] theorem State.jumpFar_pre : (s.jumpFar sg off).pre = s.pre := rfl
@[simp] theorem State.jumpFar_latches : (s.jumpFar sg off).latches = s.latches := rfl
@[simp] theorem State.jumpFar_progress : (s.jumpFar sg off).progress = s.progress := rfl
@[simp] theorem State.jumpFar_env : (s.jumpFar sg off).env = s.env := rfl
@[simp] theorem State.jumpFar_draws : (s.jumpFar sg off).draws = s.draws := rfl
end

section
variable (s : State) (d : Byte)
@[simp] theorem State.jumpRel8_regs : (s.jumpRel8 d).regs = s.regs := rfl
@[simp] theorem State.jumpRel8_segs : (s.jumpRel8 d).segs = s.segs := rfl
@[simp] theorem State.jumpRel8_flags : (s.jumpRel8 d).flags = s.flags := rfl
@[simp] theorem State.jumpRel8_mem : (s.jumpRel8 d).mem = s.mem := rfl
@[simp] theorem State.jumpRel8_pre : (s.jumpRel8 d).pre = s.pre := rfl
@[simp] theorem State.jumpRel8_latches : (s.jumpRel8 d).latches = s.latches := rfl
@[simp] theorem State.jumpRel8_progress : (s.jumpRel8 d).progress = s.progress := rfl
@[simp] theorem State.jumpRel8_env : (s.jumpRel8 d).env = s.env := rfl
@[simp] theorem State.jumpRel8_draws : (s.jumpRel8 d).draws = s.draws := rfl
end

section
variable (s : State) (c : Bool) (d : Byte)
@[simp] theorem State.jumpIf_regs : (s.jumpIf c d).regs = s.regs := by cases c <;> rfl
@[simp] theorem State.jumpIf_segs : (s.jumpIf c d).segs = s.segs := by cases c <;> rfl
@[simp] theorem State.jumpIf_flags : (s.jumpIf c d).flags = s.flags := by cases c <;> rfl
@[simp] theorem State.jumpIf_mem : (s.jumpIf c d).mem = s.mem := by cases c <;> rfl
@[simp] theorem State.jumpIf_pre : (s.jumpIf c d).pre = s.pre := by cases c <;> rfl
@[simp] theorem State.jumpIf_latches : (s.jumpIf c d).latches = s.latches := by cases c <;> rfl
@[simp] theorem State.jumpIf_progress : (s.jumpIf c d).progress = s.progress := by cases c <;> rfl
@[simp] theorem State.jumpIf_env : (s.jumpIf c d).env = s.env := by cases c <;> rfl
@[simp] theorem State.jumpIf_draws : (s.jumpIf c d).draws = s.draws := by cases c <;> rfl
end

@[simp] theorem State.jumpNear_ip (s : State) (off : Word) : (s.jumpNear off).ip = off := rfl
@[simp] theorem State.jumpNear_stale (s : State) (off : Word) : (s.jumpNear off).stale = [] := rfl
@[simp] theorem State.jumpFar_ip (s : State) (sg off : Word) : (s.jumpFar sg off).ip = off := rfl
@[simp] theorem State.jumpFar_segs (s : State) (sg off : Word) : (s.jumpFar sg off).segs = s.segs.set .cs sg := rfl
@[simp] theorem State.jumpFar_stale (s : State) (sg off : Word) : (s.jumpFar sg off).stale = [] := rfl

/-! ## Flags left undefined -/

section
variable (s : State) (n : StatusFlag)
@[simp] theorem State.undefineFlag_regs : (s.undefineFlag n).regs = s.regs := rfl
@[simp] theorem State.undefineFlag_segs : (s.undefineFlag n).segs = s.segs := rfl
@[simp] theorem State.undefineFlag_ip : (s.undefineFlag n).ip = s.ip := rfl
@[simp] theorem State.undefineFlag_mem : (s.undefineFlag n).mem = s.mem := rfl
@[simp] theorem State.undefineFlag_pre : (s.undefineFlag n).pre = s.pre := rfl
@[simp] theorem State.undefineFlag_latches : (s.undefineFlag n).latches = s.latches := rfl
@[simp] theorem State.undefineFlag_progress : (s.undefineFlag n).progress = s.progress := rfl
@[simp] theorem State.undefineFlag_env : (s.undefineFlag n).env = s.env := rfl
@[simp] theorem State.undefineFlag_stale : (s.undefineFlag n).stale = s.stale := rfl
end

@[simp] theorem State.undefine_regs (s : State) (ns : List StatusFlag) : (s.undefine ns).regs = s.regs := by
  induction ns generalizing s with
  | nil => rfl
  | cons n ns ih => exact (ih (s.undefineFlag n)).trans (s.undefineFlag_regs n)
@[simp] theorem State.undefine_segs (s : State) (ns : List StatusFlag) : (s.undefine ns).segs = s.segs := by
  induction ns generalizing s with
  | nil => rfl
  | cons n ns ih => exact (ih (s.undefineFlag n)).trans (s.undefineFlag_segs n)
@[simp] theorem State.undefine_ip (s : State) (ns : List StatusFlag) : (s.undefine ns).ip = s.ip := by
  induction ns generalizing s with
  | nil => rfl
  | cons n ns ih => exact (ih (s.undefineFlag n)).trans (s.undefineFlag_ip n)
@[simp] theorem State.undefine_mem (s : State) (ns : List StatusFlag) : (s.undefine ns).mem = s.mem := by
  induction ns generalizing s with
  | nil => rfl
  | cons n ns ih => exact (ih (s.undefineFlag n)).trans (s.undefineFlag_mem n)
@[simp] theorem State.undefine_pre (s : State) (ns : List StatusFlag) : (s.undefine ns).pre = s.pre := by
  induction ns generalizing s with
  | nil => rfl
  | cons n ns ih => exact (ih (s.undefineFlag n)).trans (s.undefineFlag_pre n)
@[simp] theorem State.undefine_latches (s : State) (ns : List StatusFlag) : (s.undefine ns).latches = s.latches := by
  induction ns generalizing s with
  | nil => rfl
  | cons n ns ih => exact (ih (s.undefineFlag n)).trans (s.undefineFlag_latches n)
@[simp] theorem State.undefine_progress (s : State) (ns : List StatusFlag) : (s.undefine ns).progress = s.progress := by
  induction ns generalizing s with
  | nil => rfl
  | cons n ns ih => exact (ih (s.undefineFlag n)).trans (s.undefineFlag_progress n)
@[simp] theorem State.undefine_env (s : State) (ns : List StatusFlag) : (s.undefine ns).env = s.env := by
  induction ns generalizing s with
  | nil => rfl
  | cons n ns ih => exact (ih (s.undefineFlag n)).trans (s.undefineFlag_env n)
@[simp] theorem State.undefine_stale (s : State) (ns : List StatusFlag) : (s.undefine ns).stale = s.stale := by
  induction ns generalizing s with
  | nil => rfl
  | cons n ns ih => exact (ih (s.undefineFlag n)).trans (s.undefineFlag_stale n)

/-- TF, IF and DF are never undefined. -/
theorem State.undefine_control (s : State) (ns : List StatusFlag) :
    (s.undefine ns).flags.tf = s.flags.tf ∧ (s.undefine ns).flags.iF = s.flags.iF
      ∧ (s.undefine ns).flags.df = s.flags.df := by
  induction ns generalizing s with
  | nil => exact ⟨rfl, rfl, rfl⟩
  | cons n ns ih =>
    obtain ⟨h1, h2, h3⟩ := ih (s.undefineFlag n)
    refine ⟨h1.trans ?_, h2.trans ?_, h3.trans ?_⟩ <;> cases n <;> rfl

/-! ## I/O space -/

section
variable (s : State) (e : BusEvent)
@[simp] theorem State.log_regs : (s.log e).regs = s.regs := rfl
@[simp] theorem State.log_segs : (s.log e).segs = s.segs := rfl
@[simp] theorem State.log_ip : (s.log e).ip = s.ip := rfl
@[simp] theorem State.log_flags : (s.log e).flags = s.flags := rfl
@[simp] theorem State.log_mem : (s.log e).mem = s.mem := rfl
@[simp] theorem State.log_pre : (s.log e).pre = s.pre := rfl
@[simp] theorem State.log_latches : (s.log e).latches = s.latches := rfl
@[simp] theorem State.log_progress : (s.log e).progress = s.progress := rfl
@[simp] theorem State.log_stale : (s.log e).stale = s.stale := rfl
@[simp] theorem State.log_draws : (s.log e).draws = s.draws := rfl
end

/-! ## Interrupts -/

section
variable (s : State) (ip' : Word)
@[simp] theorem State.pushFrame_regs : (s.pushFrame ip').regs = s.regs.set16 .spAh (s.regs.sp - 2 - 2 - 2) := by
  simp [State.pushFrame, Regs.set16]
@[simp] theorem State.pushFrame_flags : (s.pushFrame ip').flags = s.flags.mask := by simp [State.pushFrame]
@[simp] theorem State.pushFrame_segs : (s.pushFrame ip').segs = s.segs := by simp [State.pushFrame]
@[simp] theorem State.pushFrame_ip : (s.pushFrame ip').ip = s.ip := by simp [State.pushFrame]
@[simp] theorem State.pushFrame_pre : (s.pushFrame ip').pre = s.pre := by simp [State.pushFrame]
@[simp] theorem State.pushFrame_latches : (s.pushFrame ip').latches = s.latches := by simp [State.pushFrame]
@[simp] theorem State.pushFrame_progress : (s.pushFrame ip').progress = s.progress := by simp [State.pushFrame]
@[simp] theorem State.pushFrame_maxMode : (s.pushFrame ip').env.maxMode = s.env.maxMode := by simp [State.pushFrame]
@[simp] theorem State.pushFrame_map : (s.pushFrame ip').env.map = s.env.map := by simp [State.pushFrame]
@[simp] theorem State.pushFrame_intr : (s.pushFrame ip').env.intr = s.env.intr := by simp [State.pushFrame]
@[simp] theorem State.pushFrame_testLow : (s.pushFrame ip').env.testLow = s.env.testLow := by simp [State.pushFrame]
@[simp] theorem State.pushFrame_inputs : (s.pushFrame ip').env.inputs = s.env.inputs := by simp [State.pushFrame]
@[simp] theorem State.pushFrame_cutSome : (s.pushFrame ip').env.cut.isSome = s.env.cut.isSome := by
  simp [State.pushFrame]
theorem State.pushFrame_wf (h : Memory.wf s.mem) : Memory.wf (s.pushFrame ip').mem :=
  State.push16_wf _ _ (State.push16_wf _ _ (State.push16_wf s _ h))
end

section
variable (s : State)
@[simp] theorem State.leaveInstruction_regs : s.leaveInstruction.regs = s.regs := rfl
@[simp] theorem State.leaveInstruction_segs : s.leaveInstruction.segs = s.segs := rfl
@[simp] theorem State.leaveInstruction_ip : s.leaveInstruction.ip = s.ip := rfl
@[simp] theorem State.leaveInstruction_flags : s.leaveInstruction.flags = s.flags := rfl
@[simp] theorem State.leaveInstruction_mem : s.leaveInstruction.mem = s.mem := rfl
@[simp] theorem State.leaveInstruction_env : s.leaveInstruction.env = s.env := rfl
@[simp] theorem State.leaveInstruction_stale : s.leaveInstruction.stale = s.stale := rfl
@[simp] theorem State.leaveInstruction_draws : s.leaveInstruction.draws = s.draws := rfl
end

section
variable (s : State) (type : Byte) (ip' : Word)
@[simp] theorem State.interruptEntry_regs :
    (s.interruptEntry type ip').regs = s.regs.set16 .spAh (s.regs.sp - 2 - 2 - 2) := by simp [State.interruptEntry]
@[simp] theorem State.interruptEntry_segs :
    (s.interruptEntry type ip').segs = s.segs.set .cs ((s.pushFrame ip').vectorCs type) := by simp [State.interruptEntry]
@[simp] theorem State.interruptEntry_ip :
    (s.interruptEntry type ip').ip = (s.pushFrame ip').vectorIp type := by simp [State.interruptEntry]
@[simp] theorem State.interruptEntry_flags : (s.interruptEntry type ip').flags = s.flags.mask := by
  simp [State.interruptEntry]
@[simp] theorem State.interruptEntry_mem :
    (s.interruptEntry type ip').mem = ((s.pushFrame ip').afterVector type).mem := by simp [State.interruptEntry]
@[simp] theorem State.interruptEntry_pre : (s.interruptEntry type ip').pre = Prefixes.none := by
  simp [State.interruptEntry, State.leaveInstruction]
@[simp] theorem State.interruptEntry_latches :
    (s.interruptEntry type ip').latches = { s.latches with halted := false } := by
  simp [State.interruptEntry, State.leaveInstruction]
@[simp] theorem State.interruptEntry_progress :
    (s.interruptEntry type ip').progress = { s.progress with mid := false, repeating := none } := by
  simp [State.interruptEntry, State.leaveInstruction]
@[simp] theorem State.interruptEntry_stale : (s.interruptEntry type ip').stale = [] := by simp [State.interruptEntry]
@[simp] theorem State.interruptEntry_maxMode : (s.interruptEntry type ip').env.maxMode = s.env.maxMode := by
  simp [State.interruptEntry]
@[simp] theorem State.interruptEntry_map : (s.interruptEntry type ip').env.map = s.env.map := by
  simp [State.interruptEntry]
@[simp] theorem State.interruptEntry_intr : (s.interruptEntry type ip').env.intr = s.env.intr := by
  simp [State.interruptEntry]
@[simp] theorem State.interruptEntry_testLow : (s.interruptEntry type ip').env.testLow = s.env.testLow := by
  simp [State.interruptEntry]
@[simp] theorem State.interruptEntry_inputs : (s.interruptEntry type ip').env.inputs = s.env.inputs := by
  simp [State.interruptEntry]
@[simp] theorem State.interruptEntry_cutSome : (s.interruptEntry type ip').env.cut.isSome = s.env.cut.isSome := by
  simp [State.interruptEntry]
theorem State.interruptEntry_wf (h : Memory.wf s.mem) : Memory.wf (s.interruptEntry type ip').mem := by
  rw [State.interruptEntry_mem]; exact State.afterVector_wf _ _ (s.pushFrame_wf ip' h)
end

section
variable (s : State) (type : Byte) (ip' : Word)
@[simp] theorem State.enterBetween_regs :
    (s.enterBetween type ip').regs = s.regs.set16 .spAh (s.regs.sp - 2 - 2 - 2) := by simp [State.enterBetween]
@[simp] theorem State.enterBetween_flags : (s.enterBetween type ip').flags = s.flags.mask := by simp [State.enterBetween]
@[simp] theorem State.enterBetween_pre : (s.enterBetween type ip').pre = Prefixes.none := by simp [State.enterBetween]
@[simp] theorem State.enterBetween_latches :
    (s.enterBetween type ip').latches = { s.latches with halted := false } := by simp [State.enterBetween]
@[simp] theorem State.enterBetween_progress :
    (s.enterBetween type ip').progress = { s.progress with mid := false, repeating := none } := by
  simp [State.enterBetween]
@[simp] theorem State.enterBetween_stale : (s.enterBetween type ip').stale = [] := by simp [State.enterBetween]
@[simp] theorem State.enterBetween_maxMode : (s.enterBetween type ip').env.maxMode = s.env.maxMode := by
  simp [State.enterBetween]
@[simp] theorem State.enterBetween_map : (s.enterBetween type ip').env.map = s.env.map := by
  simp [State.enterBetween]
@[simp] theorem State.enterBetween_intr : (s.enterBetween type ip').env.intr = s.env.intr := by
  simp [State.enterBetween]
@[simp] theorem State.enterBetween_testLow : (s.enterBetween type ip').env.testLow = s.env.testLow := by
  simp [State.enterBetween]
@[simp] theorem State.enterBetween_inputs : (s.enterBetween type ip').env.inputs = s.env.inputs := by
  simp [State.enterBetween]
@[simp] theorem State.enterBetween_cutSome : (s.enterBetween type ip').env.cut.isSome = s.env.cut.isSome := by
  simp [State.enterBetween]
theorem State.enterBetween_wf (h : Memory.wf s.mem) : Memory.wf (s.enterBetween type ip').mem :=
  State.interruptEntry_wf _ type ip' (State.gap_wf (s.setPre Prefixes.none) h)
end

/-! ## Strings -/

section
variable (s : State)
@[simp] theorem State.lastTurn_regs : s.lastTurn.regs = s.regs := rfl
@[simp] theorem State.lastTurn_segs : s.lastTurn.segs = s.segs := rfl
@[simp] theorem State.lastTurn_ip : s.lastTurn.ip = s.ip := rfl
@[simp] theorem State.lastTurn_flags : s.lastTurn.flags = s.flags := rfl
@[simp] theorem State.lastTurn_mem : s.lastTurn.mem = s.mem := rfl
@[simp] theorem State.lastTurn_pre : s.lastTurn.pre = s.pre := rfl
@[simp] theorem State.lastTurn_latches : s.lastTurn.latches = s.latches := rfl
@[simp] theorem State.lastTurn_env : s.lastTurn.env = s.env := rfl
@[simp] theorem State.lastTurn_stale : s.lastTurn.stale = s.stale := rfl
@[simp] theorem State.lastTurn_draws : s.lastTurn.draws = s.draws := rfl
end

section
variable (s : State) (p : InProgress)
@[simp] theorem State.anotherTurn_regs : (s.anotherTurn p).regs = s.regs := rfl
@[simp] theorem State.anotherTurn_segs : (s.anotherTurn p).segs = s.segs := rfl
@[simp] theorem State.anotherTurn_ip : (s.anotherTurn p).ip = s.ip := rfl
@[simp] theorem State.anotherTurn_flags : (s.anotherTurn p).flags = s.flags := rfl
@[simp] theorem State.anotherTurn_mem : (s.anotherTurn p).mem = s.mem := rfl
@[simp] theorem State.anotherTurn_pre : (s.anotherTurn p).pre = s.pre := rfl
@[simp] theorem State.anotherTurn_latches : (s.anotherTurn p).latches = s.latches := rfl
@[simp] theorem State.anotherTurn_env : (s.anotherTurn p).env = s.env := rfl
@[simp] theorem State.anotherTurn_stale : (s.anotherTurn p).stale = s.stale := rfl
@[simp] theorem State.anotherTurn_draws : (s.anotherTurn p).draws = s.draws := rfl
end

section
variable (s : State)
@[simp] theorem State.countDown_segs : s.countDown.segs = s.segs := rfl
@[simp] theorem State.countDown_ip : s.countDown.ip = s.ip := rfl
@[simp] theorem State.countDown_flags : s.countDown.flags = s.flags := rfl
@[simp] theorem State.countDown_mem : s.countDown.mem = s.mem := rfl
@[simp] theorem State.countDown_pre : s.countDown.pre = s.pre := rfl
@[simp] theorem State.countDown_latches : s.countDown.latches = s.latches := rfl
@[simp] theorem State.countDown_progress : s.countDown.progress = s.progress := rfl
@[simp] theorem State.countDown_env : s.countDown.env = s.env := rfl
@[simp] theorem State.countDown_stale : s.countDown.stale = s.stale := rfl
@[simp] theorem State.countDown_draws : s.countDown.draws = s.draws := rfl
end

section
variable (s : State) (w : Width)
@[simp] theorem State.stepSi_segs : (s.stepSi w).segs = s.segs := rfl
@[simp] theorem State.stepSi_ip : (s.stepSi w).ip = s.ip := rfl
@[simp] theorem State.stepSi_flags : (s.stepSi w).flags = s.flags := rfl
@[simp] theorem State.stepSi_mem : (s.stepSi w).mem = s.mem := rfl
@[simp] theorem State.stepSi_pre : (s.stepSi w).pre = s.pre := rfl
@[simp] theorem State.stepSi_latches : (s.stepSi w).latches = s.latches := rfl
@[simp] theorem State.stepSi_progress : (s.stepSi w).progress = s.progress := rfl
@[simp] theorem State.stepSi_env : (s.stepSi w).env = s.env := rfl
@[simp] theorem State.stepSi_stale : (s.stepSi w).stale = s.stale := rfl
@[simp] theorem State.stepSi_draws : (s.stepSi w).draws = s.draws := rfl
end

section
variable (s : State) (w : Width)
@[simp] theorem State.stepDi_segs : (s.stepDi w).segs = s.segs := rfl
@[simp] theorem State.stepDi_ip : (s.stepDi w).ip = s.ip := rfl
@[simp] theorem State.stepDi_flags : (s.stepDi w).flags = s.flags := rfl
@[simp] theorem State.stepDi_mem : (s.stepDi w).mem = s.mem := rfl
@[simp] theorem State.stepDi_pre : (s.stepDi w).pre = s.pre := rfl
@[simp] theorem State.stepDi_latches : (s.stepDi w).latches = s.latches := rfl
@[simp] theorem State.stepDi_progress : (s.stepDi w).progress = s.progress := rfl
@[simp] theorem State.stepDi_env : (s.stepDi w).env = s.env := rfl
@[simp] theorem State.stepDi_stale : (s.stepDi w).stale = s.stale := rfl
@[simp] theorem State.stepDi_draws : (s.stepDi w).draws = s.draws := rfl
end

/-! ## Shared operations of the arithmetic and logic families -/

section
variable (s : State) (w : Width) (rm d : Rm) (b : BitVec w.bits) (c : Bool)
@[simp] theorem State.addTo_segs : (s.addTo w rm d b c).segs = s.segs := by simp [State.addTo]
@[simp] theorem State.addTo_ip : (s.addTo w rm d b c).ip = s.ip := by simp [State.addTo]
@[simp] theorem State.addTo_pre : (s.addTo w rm d b c).pre = s.pre := by simp [State.addTo]
@[simp] theorem State.addTo_latches : (s.addTo w rm d b c).latches = s.latches := by simp [State.addTo]
@[simp] theorem State.addTo_progress : (s.addTo w rm d b c).progress = s.progress := by simp [State.addTo]
end

section
variable (s : State) (w : Width) (rm d : Rm) (b : BitVec w.bits) (c : Bool)
@[simp] theorem State.subFrom_segs : (s.subFrom w rm d b c).segs = s.segs := by simp [State.subFrom]
@[simp] theorem State.subFrom_ip : (s.subFrom w rm d b c).ip = s.ip := by simp [State.subFrom]
@[simp] theorem State.subFrom_pre : (s.subFrom w rm d b c).pre = s.pre := by simp [State.subFrom]
@[simp] theorem State.subFrom_latches : (s.subFrom w rm d b c).latches = s.latches := by simp [State.subFrom]
@[simp] theorem State.subFrom_progress : (s.subFrom w rm d b c).progress = s.progress := by simp [State.subFrom]
end

section
variable (s : State) (n : Nat) (a b : BitVec n)
@[simp] theorem State.compare_regs : (s.compare a b).regs = s.regs := rfl
@[simp] theorem State.compare_segs : (s.compare a b).segs = s.segs := rfl
@[simp] theorem State.compare_ip : (s.compare a b).ip = s.ip := rfl
@[simp] theorem State.compare_mem : (s.compare a b).mem = s.mem := rfl
@[simp] theorem State.compare_pre : (s.compare a b).pre = s.pre := rfl
@[simp] theorem State.compare_latches : (s.compare a b).latches = s.latches := rfl
@[simp] theorem State.compare_progress : (s.compare a b).progress = s.progress := rfl
@[simp] theorem State.compare_env : (s.compare a b).env = s.env := rfl
@[simp] theorem State.compare_stale : (s.compare a b).stale = s.stale := rfl
@[simp] theorem State.compare_draws : (s.compare a b).draws = s.draws := rfl
end

section
variable (s : State) (w : Width) (d : Rm)
@[simp] theorem State.increment_segs : (s.increment w d).segs = s.segs := by simp [State.increment]
@[simp] theorem State.increment_ip : (s.increment w d).ip = s.ip := by simp [State.increment]
@[simp] theorem State.increment_pre : (s.increment w d).pre = s.pre := by simp [State.increment]
@[simp] theorem State.increment_latches : (s.increment w d).latches = s.latches := by simp [State.increment]
@[simp] theorem State.increment_progress : (s.increment w d).progress = s.progress := by simp [State.increment]
end

section
variable (s : State) (w : Width) (d : Rm)
@[simp] theorem State.decrement_segs : (s.decrement w d).segs = s.segs := by simp [State.decrement]
@[simp] theorem State.decrement_ip : (s.decrement w d).ip = s.ip := by simp [State.decrement]
@[simp] theorem State.decrement_pre : (s.decrement w d).pre = s.pre := by simp [State.decrement]
@[simp] theorem State.decrement_latches : (s.decrement w d).latches = s.latches := by simp [State.decrement]
@[simp] theorem State.decrement_progress : (s.decrement w d).progress = s.progress := by simp [State.decrement]
end

section
variable (s : State) (w : Width) (p : BitVec 32)
@[simp] theorem State.setProduct_segs : (s.setProduct w p).segs = s.segs := by cases w <;> rfl
@[simp] theorem State.setProduct_ip : (s.setProduct w p).ip = s.ip := by cases w <;> rfl
@[simp] theorem State.setProduct_flags : (s.setProduct w p).flags = s.flags := by cases w <;> rfl
@[simp] theorem State.setProduct_mem : (s.setProduct w p).mem = s.mem := by cases w <;> rfl
@[simp] theorem State.setProduct_pre : (s.setProduct w p).pre = s.pre := by cases w <;> rfl
@[simp] theorem State.setProduct_latches : (s.setProduct w p).latches = s.latches := by cases w <;> rfl
@[simp] theorem State.setProduct_progress : (s.setProduct w p).progress = s.progress := by cases w <;> rfl
@[simp] theorem State.setProduct_env : (s.setProduct w p).env = s.env := by cases w <;> rfl
@[simp] theorem State.setProduct_stale : (s.setProduct w p).stale = s.stale := by cases w <;> rfl
@[simp] theorem State.setProduct_draws : (s.setProduct w p).draws = s.draws := by cases w <;> rfl
end

section
variable (s : State) (w : Width) (q r : BitVec w.bits)
@[simp] theorem State.setQuotient_segs : (s.setQuotient w q r).segs = s.segs := by cases w <;> rfl
@[simp] theorem State.setQuotient_ip : (s.setQuotient w q r).ip = s.ip := by cases w <;> rfl
@[simp] theorem State.setQuotient_flags : (s.setQuotient w q r).flags = s.flags := by cases w <;> rfl
@[simp] theorem State.setQuotient_mem : (s.setQuotient w q r).mem = s.mem := by cases w <;> rfl
@[simp] theorem State.setQuotient_pre : (s.setQuotient w q r).pre = s.pre := by cases w <;> rfl
@[simp] theorem State.setQuotient_latches : (s.setQuotient w q r).latches = s.latches := by cases w <;> rfl
@[simp] theorem State.setQuotient_progress : (s.setQuotient w q r).progress = s.progress := by cases w <;> rfl
@[simp] theorem State.setQuotient_env : (s.setQuotient w q r).env = s.env := by cases w <;> rfl
@[simp] theorem State.setQuotient_stale : (s.setQuotient w q r).stale = s.stale := by cases w <;> rfl
@[simp] theorem State.setQuotient_draws : (s.setQuotient w q r).draws = s.draws := by cases w <;> rfl
end

section
variable (s : State) (n : Nat) (r : BitVec n)
@[simp] theorem State.logicFlags_regs : (s.logicFlags r).regs = s.regs := by simp [State.logicFlags]
@[simp] theorem State.logicFlags_segs : (s.logicFlags r).segs = s.segs := by simp [State.logicFlags]
@[simp] theorem State.logicFlags_ip : (s.logicFlags r).ip = s.ip := by simp [State.logicFlags]
@[simp] theorem State.logicFlags_mem : (s.logicFlags r).mem = s.mem := by simp [State.logicFlags]
@[simp] theorem State.logicFlags_pre : (s.logicFlags r).pre = s.pre := by simp [State.logicFlags]
@[simp] theorem State.logicFlags_latches : (s.logicFlags r).latches = s.latches := by simp [State.logicFlags]
@[simp] theorem State.logicFlags_progress : (s.logicFlags r).progress = s.progress := by simp [State.logicFlags]
@[simp] theorem State.logicFlags_env : (s.logicFlags r).env = s.env := by simp [State.logicFlags]
@[simp] theorem State.logicFlags_stale : (s.logicFlags r).stale = s.stale := by simp [State.logicFlags]
end

section
variable (s : State) (w : Width) (rm d : Rm) (r : BitVec w.bits)
@[simp] theorem State.logicTo_segs : (s.logicTo w rm d r).segs = s.segs := by simp [State.logicTo]
@[simp] theorem State.logicTo_ip : (s.logicTo w rm d r).ip = s.ip := by simp [State.logicTo]
@[simp] theorem State.logicTo_pre : (s.logicTo w rm d r).pre = s.pre := by simp [State.logicTo]
@[simp] theorem State.logicTo_latches : (s.logicTo w rm d r).latches = s.latches := by simp [State.logicTo]
@[simp] theorem State.logicTo_progress : (s.logicTo w rm d r).progress = s.progress := by simp [State.logicTo]
end

section
variable (s : State) (op : ShiftOp) (w : Width) (v : Count) (rm : Rm)
@[simp] theorem State.shift_segs : (s.shift op w v rm).segs = s.segs := by unfold State.shift; split <;> simp
@[simp] theorem State.shift_ip : (s.shift op w v rm).ip = s.ip := by unfold State.shift; split <;> simp
@[simp] theorem State.shift_pre : (s.shift op w v rm).pre = s.pre := by unfold State.shift; split <;> simp
@[simp] theorem State.shift_latches : (s.shift op w v rm).latches = s.latches := by unfold State.shift; split <;> simp
@[simp] theorem State.shift_progress : (s.shift op w v rm).progress = s.progress := by unfold State.shift; split <;> simp
end

/-! ## What memory holds, and what answers, under updates of other fields -/

section
variable (s : State) (a : Nat)
@[simp] theorem State.setRegs_byteAt (v : Regs) : (s.setRegs v).byteAt a = s.byteAt a := rfl
@[simp] theorem State.setSegs_byteAt (v : Segs) : (s.setSegs v).byteAt a = s.byteAt a := rfl
@[simp] theorem State.setIp_byteAt (v : Word) : (s.setIp v).byteAt a = s.byteAt a := rfl
@[simp] theorem State.setFlags_byteAt (v : Flags) : (s.setFlags v).byteAt a = s.byteAt a := rfl
@[simp] theorem State.setPre_byteAt (v : Prefixes) : (s.setPre v).byteAt a = s.byteAt a := rfl
@[simp] theorem State.setLatches_byteAt (v : Latches) : (s.setLatches v).byteAt a = s.byteAt a := rfl
@[simp] theorem State.setProgress_byteAt (v : Progress) : (s.setProgress v).byteAt a = s.byteAt a := rfl
@[simp] theorem State.setEnv_byteAt (v : Env) : (s.setEnv v).byteAt a = s.byteAt a := rfl
@[simp] theorem State.setStale_byteAt (v : List Host.Cell) : (s.setStale v).byteAt a = s.byteAt a := rfl
@[simp] theorem State.setDraws_byteAt (v : Nat) : (s.setDraws v).byteAt a = s.byteAt a := rfl
@[simp] theorem State.setRegs_kindAt (v : Regs) : (s.setRegs v).kindAt a = s.kindAt a := rfl
@[simp] theorem State.setSegs_kindAt (v : Segs) : (s.setSegs v).kindAt a = s.kindAt a := rfl
@[simp] theorem State.setIp_kindAt (v : Word) : (s.setIp v).kindAt a = s.kindAt a := rfl
@[simp] theorem State.setFlags_kindAt (v : Flags) : (s.setFlags v).kindAt a = s.kindAt a := rfl
@[simp] theorem State.setPre_kindAt (v : Prefixes) : (s.setPre v).kindAt a = s.kindAt a := rfl
@[simp] theorem State.setLatches_kindAt (v : Latches) : (s.setLatches v).kindAt a = s.kindAt a := rfl
@[simp] theorem State.setProgress_kindAt (v : Progress) : (s.setProgress v).kindAt a = s.kindAt a := rfl
@[simp] theorem State.setStale_kindAt (v : List Host.Cell) : (s.setStale v).kindAt a = s.kindAt a := rfl
@[simp] theorem State.setDraws_kindAt (v : Nat) : (s.setDraws v).kindAt a = s.kindAt a := rfl
@[simp] theorem State.jumpNear_byteAt (off : Word) : (s.jumpNear off).byteAt a = s.byteAt a := rfl
@[simp] theorem State.jumpFar_byteAt (sg off : Word) : (s.jumpFar sg off).byteAt a = s.byteAt a := rfl
end

end Sys2Proof.Machine
end

