-- ==== Sys2Proof/Laws/Plain.lean ====
section
/-! SUPPORT. The CPU alone with its memory (`Plain`): a read leaves the state as it is and gives what memory holds, a write
stores where there is RAM, and nothing of the host's side changes. -/

namespace Sys2Proof.Machine

theorem Plain.of_env {s t : State} (h : Plain s) (e : t.env = s.env) : Plain t := by unfold Plain; rw [e]; exact h

/-- Only RAM and ROM answer. -/
theorem Plain.kind {s : State} (h : Plain s) (a : Nat) : s.kindAt a = .ram ∨ s.kindAt a = .rom := by
  unfold State.kindAt
  split
  · exact Or.inl rfl
  · next r hr => exact h.1 r (List.mem_of_find?_eq_some hr)

/-! ## Reads -/

theorem State.gap_plain {s : State} (h : Plain s) : s.gap = s := by
  unfold State.gap
  split
  · rfl
  · rw [h.2.1]

theorem State.busCycle_plain {s : State} (h : Plain s) (f : State → State) : s.busCycle f = f s := by
  unfold State.busCycle; rw [h.2.2]

theorem State.busByte_plain {s : State} (h : Plain s) (a : Nat) : s.busByte a = s.byteAt a := by
  unfold State.busByte; rcases h.kind a with e | e <;> rw [e]

theorem State.afterRead_plain {s : State} (h : Plain s) (a : Nat) : s.afterRead a = s := by
  unfold State.afterRead; rcases h.kind a with e | e <;> rw [e]

theorem State.afterSeg_plain {s : State} (h : Plain s) (sg off : Word) (w : Width) : s.afterSeg sg off w = s := by
  cases w <;> simp only [State.afterSeg, State.afterRead_plain h, State.gap_plain h]

theorem State.afterPhys16_plain {s : State} (h : Plain s) (a : Nat) : s.afterPhys16 a = s := by
  simp only [State.afterPhys16, State.afterRead_plain h, State.gap_plain h]

theorem State.afterVector_plain {s : State} (h : Plain s) (type : Byte) : s.afterVector type = s := by
  simp only [State.afterVector, State.afterPhys16_plain h]

theorem State.afterRm_plain {s : State} (h : Plain s) (w : Width) (rm : Rm) : s.afterRm w rm = s := by
  cases rm with
  | reg r => rfl
  | mem m => exact s.afterSeg_plain h _ _ w

theorem State.afterFar_plain {s : State} (h : Plain s) (m : MemRef) : s.afterFar m = s := by
  simp only [State.afterFar, State.afterSeg_plain h]

theorem State.afterSource_plain {s : State} (h : Plain s) (w : Width) : s.afterSource w = s := s.afterSeg_plain h _ _ w
theorem State.afterDest_plain {s : State} (h : Plain s) (w : Width) : s.afterDest w = s := s.afterSeg_plain h _ _ w

theorem State.farSegment_plain {s : State} (h : Plain s) (m : MemRef) :
    s.farSegment m = s.readSeg (s.memSeg m) (s.memOff m + 2) .word := by
  simp only [State.farSegment, State.afterSeg_plain h]

theorem State.drop16_plain {s : State} (h : Plain s) : s.drop16 = s.setReg16 .spAh (s.regs.sp + 2) := by
  simp only [State.drop16, State.afterSeg_plain h]

theorem State.readSeg_byte_plain {s : State} (h : Plain s) (sg off : Word) :
    s.readSeg sg off .byte = s.byteAt (phys sg off) := s.busByte_plain h _

theorem State.readSeg_word_plain {s : State} (h : Plain s) (sg off : Word) :
    s.readSeg sg off .word = joinBytes (s.byteAt (phys sg (off + 1))) (s.byteAt (phys sg off)) := by
  simp only [State.readSeg, State.afterRead_plain h, State.busByte_plain h]

theorem State.readPhys16_plain {s : State} (h : Plain s) (a : Nat) : s.readPhys16 a = s.wordAt a := by
  simp only [State.readPhys16, State.wordAt, State.afterRead_plain h, State.busByte_plain h]

theorem State.vectorIp_plain {s : State} (h : Plain s) (type : Byte) : s.vectorIp type = s.wordAt (4 * type.toNat) :=
  s.readPhys16_plain h _

theorem State.vectorCs_plain {s : State} (h : Plain s) (type : Byte) :
    s.vectorCs type = s.wordAt (4 * type.toNat + 2) := by
  simp only [State.vectorCs, State.afterPhys16_plain h, State.readPhys16_plain h]

/-- A read sees no more of the state than memory. -/
theorem State.readSeg_congr {s t : State} (hs : Plain s) (e : t.env = s.env) (m : t.mem = s.mem) (sg off : Word)
    (w : Width) : t.readSeg sg off w = s.readSeg sg off w := by
  have ht := hs.of_env e
  cases w
  · rw [readSeg_byte_plain ht, readSeg_byte_plain hs]; unfold State.byteAt; rw [m]
  · rw [readSeg_word_plain ht, readSeg_word_plain hs]; unfold State.byteAt; rw [m]

/-! ## Writes -/

@[simp] theorem State.store_env (s : State) (a : Nat) (v : Byte) : (s.store a v).env = s.env := by
  unfold State.store; split <;> rfl
@[simp] theorem State.store_draws (s : State) (a : Nat) (v : Byte) : (s.store a v).draws = s.draws := by
  unfold State.store; split <;> rfl

theorem State.byteAt_store_same (s : State) (a : Nat) (v : Byte) (h : s.kindAt a = .ram) : (s.store a v).byteAt a = v := by
  unfold State.store; rw [if_pos h]; exact Memory.read_write_same s.mem a v

/-- A store reaches the address stored to, and that only if RAM is there. -/
theorem State.byteAt_store_other (s : State) (a b : Nat) (v : Byte) (h : b ≠ a ∨ s.kindAt b ≠ .ram) :
    (s.store a v).byteAt b = s.byteAt b := by
  unfold State.store
  split
  · next ha =>
    exact Memory.read_write_other s.mem a b v (h.elim id fun hk e => hk (e ▸ ha))
  · rfl

theorem State.writeByte_plain {s : State} (h : Plain s) (a : Nat) (v : Byte) : s.writeByte a v = s.store a v := by
  unfold State.writeByte
  rw [State.busCycle_plain h]
  rcases h.kind a with e | e <;> rw [e] <;> rfl

theorem Plain.store {s : State} (h : Plain s) (a : Nat) (v : Byte) : Plain (s.store a v) := h.of_env (s.store_env a v)

theorem State.writeSeg_byte_plain {s : State} (h : Plain s) (sg off : Word) (v : Byte) :
    s.writeSeg sg off .byte v = s.store (phys sg off) v := by
  simp only [State.writeSeg, State.writeByte_plain h, State.gap_plain (h.store _ _)]

theorem State.writeSeg_word_plain {s : State} (h : Plain s) (sg off v : Word) :
    s.writeSeg sg off .word v = (s.store (phys sg off) (loByte v)).store (phys sg (off + 1)) (hiByte v) := by
  have h1 := h.store (phys sg off) (loByte v)
  simp only [State.writeSeg, State.writeByte_plain h, State.writeByte_plain h1, State.gap_plain (h1.store _ _)]

theorem State.writeSeg_env_plain {s : State} (h : Plain s) (sg off : Word) (w : Width) (v : BitVec w.bits) :
    (s.writeSeg sg off w v).env = s.env ∧ (s.writeSeg sg off w v).draws = s.draws := by
  cases w
  · rw [State.writeSeg_byte_plain h]; exact ⟨s.store_env _ _, s.store_draws _ _⟩
  · rw [State.writeSeg_word_plain h]; simp

theorem Plain.writeSeg {s : State} (h : Plain s) (sg off : Word) (w : Width) (v : BitVec w.bits) :
    Plain (s.writeSeg sg off w v) := h.of_env (State.writeSeg_env_plain h sg off w v).1

/-- Every byte outside the access keeps its value, and every byte that is no RAM. -/
theorem State.byteAt_writeSeg_outside {s : State} (h : Plain s) (sg off : Word) (w : Width) (v : BitVec w.bits) (a : Nat)
    (k : a ∉ accessBytes sg off w ∨ s.kindAt a ≠ .ram) : (s.writeSeg sg off w v).byteAt a = s.byteAt a := by
  cases w
  · rw [State.writeSeg_byte_plain h]
    exact s.byteAt_store_other _ a v (by simpa [accessBytes] using k)
  · have k' : (a ≠ phys sg off ∧ a ≠ phys sg (off + 1)) ∨ s.kindAt a ≠ .ram := by simpa [accessBytes] using k
    rw [State.writeSeg_word_plain h, State.byteAt_store_other _ _ a _ (k'.imp And.right fun hk => by
      rwa [State.kindAt_congr (s.store_env _ _)]), State.byteAt_store_other _ _ a _ (k'.imp And.left id)]

/-- What is stored in RAM reads back. -/
theorem State.readSeg_writeSeg {s : State} (h : Plain s) (sg off : Word) (w : Width) (v : BitVec w.bits)
    (k : s.AllRam (accessBytes sg off w)) : (s.writeSeg sg off w v).readSeg sg off w = v := by
  cases w
  · rw [State.readSeg_byte_plain (h.writeSeg sg off .byte v), State.writeSeg_byte_plain h]
    exact s.byteAt_store_same _ v (k _ (by simp [accessBytes]))
  · rw [State.readSeg_word_plain (h.writeSeg sg off .word v), State.writeSeg_word_plain h,
      State.byteAt_store_same _ _ _ (by rw [State.kindAt_congr (s.store_env _ _)]; exact k _ (by simp [accessBytes])),
      State.byteAt_store_other _ _ _ _ (Or.inl (phys_succ_ne sg off).symm),
      State.byteAt_store_same _ _ _ (k _ (by simp [accessBytes]))]
    exact joinBytes_hiByte_loByte v

/-! ## Pushes and operands -/

theorem State.push16_env_plain {s : State} (h : Plain s) (v : Word) :
    (s.push16 v).env = s.env ∧ (s.push16 v).draws = s.draws :=
  State.writeSeg_env_plain (s := s.setReg16 .spAh (s.regs.sp - 2)) (h.of_env rfl) _ _ .word v

theorem Plain.push16 {s : State} (h : Plain s) (v : Word) : Plain (s.push16 v) := h.of_env (State.push16_env_plain h v).1

theorem State.pushReg_env_plain {s : State} (h : Plain s) (r : Reg) : (s.pushReg r).env = s.env := by
  cases r <;> exact (State.push16_env_plain h _).1

/-- The word pushed is at SS:SP of the state the push leaves, if that is RAM. -/
theorem State.top16_push16 {s : State} (h : Plain s) (v : Word)
    (k : s.AllRam (accessBytes s.segs.ss (s.regs.sp - 2) .word)) :
    (s.push16 v).readSeg s.segs.ss (s.regs.sp - 2) .word = v :=
  State.readSeg_writeSeg (s := s.setReg16 .spAh (s.regs.sp - 2)) (h.of_env rfl) _ _ .word v k

/-- A push stores to the two bytes at SS:SP-2 only. -/
theorem State.push16_sameBytes {s : State} (h : Plain s) (v : Word) :
    SameBytesOutside (accessBytes s.segs.ss (s.regs.sp - 2) .word) s (s.push16 v) := fun a k =>
  State.byteAt_writeSeg_outside (s := s.setReg16 .spAh (s.regs.sp - 2)) (h.of_env rfl) _ _ .word v a k

theorem State.writeRm_env_plain {s : State} (h : Plain s) (w : Width) (rm : Rm) (v : BitVec w.bits) :
    (s.writeRm w rm v).env = s.env ∧ (s.writeRm w rm v).draws = s.draws := by
  cases rm with
  | reg r => exact ⟨rfl, rfl⟩
  | mem m => exact State.writeSeg_env_plain h _ _ w v

/-- A store to an operand reaches its own bytes only. -/
theorem State.writeRm_sameBytes {s : State} (h : Plain s) (w : Width) (rm : Rm) (v : BitVec w.bits) :
    SameBytesOutside (s.rmBytes w rm) s (s.writeRm w rm v) := fun a k => by
  cases rm with
  | reg r => rfl
  | mem m => exact State.byteAt_writeSeg_outside h _ _ w v a k

/-- A store to an operand is held there afterwards. -/
theorem State.writeRm_holds {s : State} (h : Plain s) (w : Width) (rm : Rm) (v : BitVec w.bits) :
    Holds s (s.writeRm w rm v) w rm v := by
  cases rm with
  | mem m => exact fun k => State.readSeg_writeSeg h _ _ w v k
  | reg r => exact Regs.get_set s.regs w r v

/-- A write of a register of width `w` reaches that register only. -/
theorem State.setReg_sameRegsOutside (s : State) (w : Width) (r : Reg) (v : BitVec w.bits) :
    SameRegsOutside w (.reg r) s (s.setReg w r v) := by
  cases w with
  | word => exact fun q hq => Regs.get16_set16_ne s.regs v (by simpa using hq)
  | byte =>
    refine ⟨fun q hq => Regs.get8_set8_ne s.regs v hq, fun q hq => ?_⟩
    cases r <;> cases q <;> first | rfl | simp at hq

/-- A store to an operand changes nothing else. -/
theorem State.writeRm_frame {s : State} (h : Plain s) (w : Width) (rm : Rm) (v : BitVec w.bits) :
    FrameOf w rm s (s.writeRm w rm v) := by
  refine ⟨?_, State.writeRm_sameBytes h w rm v, by
    simp [SameControl, SameHidden, (State.writeRm_env_plain h w rm v).1]⟩
  cases rm with
  | mem m => cases w <;> exact s.writeRm_mem_regs _ m v
  | reg r => exact s.setReg_sameRegsOutside w r v

/-! ## Interrupts -/

/-- The state between the first push of an entry and the second: IF and TF are cleared. -/
theorem State.pushFrame_eq (s : State) (ip' : Word) : s.pushFrame ip' =
    (((s.push16 s.flags.image).setFlags s.flags.mask).push16 s.segs.cs).push16 ip' := by
  simp [State.pushFrame]

theorem State.pushFrame_env_plain {s : State} (h : Plain s) (ip' : Word) :
    (s.pushFrame ip').env = s.env ∧ (s.pushFrame ip').draws = s.draws := by
  have h1 := h.push16 s.flags.image
  have h2 : Plain ((s.push16 s.flags.image).setFlags s.flags.mask) := h1.of_env (by simp)
  have h3 := h2.push16 s.segs.cs
  rw [State.pushFrame_eq, (State.push16_env_plain h3 ip').1, (State.push16_env_plain h3 ip').2,
    (State.push16_env_plain h2 _).1, (State.push16_env_plain h2 _).2]
  simpa using State.push16_env_plain h s.flags.image

theorem Plain.pushFrame {s : State} (h : Plain s) (ip' : Word) : Plain (s.pushFrame ip') :=
  h.of_env (State.pushFrame_env_plain h ip').1

/-- An entry is its three pushes, the end of the instruction, and the transfer through the vector. -/
theorem State.interruptEntry_plain {s : State} (h : Plain s) (type : Byte) (ip' : Word) :
    s.interruptEntry type ip' = (s.pushFrame ip').leaveInstruction.jumpFar
      ((s.pushFrame ip').wordAt (4 * type.toNat + 2)) ((s.pushFrame ip').wordAt (4 * type.toNat)) := by
  have hp := h.pushFrame ip'
  simp only [State.interruptEntry, State.afterVector_plain hp, State.vectorCs_plain hp, State.vectorIp_plain hp]

theorem State.interruptEntry_env_plain {s : State} (h : Plain s) (type : Byte) (ip' : Word) :
    (s.interruptEntry type ip').env = s.env ∧ (s.interruptEntry type ip').draws = s.draws := by
  rw [State.interruptEntry_plain h]; simpa using State.pushFrame_env_plain h ip'

theorem State.enterBetween_plain {s : State} (h : Plain s) (type : Byte) (ip' : Word) :
    s.enterBetween type ip' = (s.setPre Prefixes.none).interruptEntry type ip' := by
  have h' : Plain (s.setPre Prefixes.none) := h.of_env rfl
  unfold State.enterBetween; rw [State.gap_plain h']

/-! ## The end of a step -/

/-- With no other master waiting and no RESET under way the end of a step adds nothing. -/
theorem State.finish_plain {s : State} (hw : s.env.waiting = []) (hc : s.env.cut = none) : s.finish = s := by
  unfold State.finish
  rw [hc]
  show s.releaseBus = s
  unfold State.releaseBus
  rw [hw]
  split
  · rfl
  · show s.setEnv { s.env with waiting := [] } = s
    rw [← hw]; rfl

end Sys2Proof.Machine
end

