-- ==== Sys2Proof/Laws/Effects.lean ====
section
/-! SUPPORT. What a shared operation does, once for each: the frame of an interrupt entry, the entry itself, the bits of a
FLAGS image, the end of an instruction and of a step. -/

namespace Sys2Proof.Machine

/-- Two offsets of one segment never share a physical byte, whatever wraps. -/
theorem phys_ne (sg : Word) {a b : Word} (h : a ≠ b) : phys sg a ≠ phys sg b := by
  unfold phys
  have ha := a.isLt
  have hb := b.isLt
  intro e
  exact h (BitVec.eq_of_toNat_eq (by omega))

/-- A word that does not touch the two bytes of a push reads as before. -/
theorem State.readSeg_push16 {s : State} (h : Plain s) (v off : Word) (h1 : off ≠ s.regs.sp - 2)
    (h2 : off ≠ s.regs.sp - 1) (h3 : off + 1 ≠ s.regs.sp - 2) (h4 : off + 1 ≠ s.regs.sp - 1) :
    (s.push16 v).readSeg s.segs.ss off .word = s.readSeg s.segs.ss off .word := by
  have e : s.regs.sp - 2 + 1 = s.regs.sp - 1 := by bv_omega
  have outside : ∀ o : Word, o ≠ s.regs.sp - 2 → o ≠ s.regs.sp - 1 →
      phys s.segs.ss o ∉ accessBytes s.segs.ss (s.regs.sp - 2) .word := by
    intro o ha hb
    simp only [accessBytes, List.mem_cons, List.not_mem_nil, or_false, not_or, e]
    exact ⟨phys_ne _ ha, phys_ne _ hb⟩
  rw [State.readSeg_word_plain (h.push16 v), State.readSeg_word_plain h,
    State.push16_sameBytes h v _ (Or.inl (outside _ h1 h2)), State.push16_sameBytes h v _ (Or.inl (outside _ h3 h4))]

/-- The three words an interrupt entry pushes, where the stack is RAM, and that it stores to their six bytes only. -/
theorem State.pushFrame_words {s : State} (h : Plain s) (savedIp : Word) :
    (s.AllRam (frameBytes s) → (s.pushFrame savedIp).readSeg s.segs.ss (s.regs.sp - 6) .word = savedIp
        ∧ (s.pushFrame savedIp).readSeg s.segs.ss (s.regs.sp - 4) .word = s.segs.cs
        ∧ (s.pushFrame savedIp).readSeg s.segs.ss (s.regs.sp - 2) .word = s.flags.image)
      ∧ SameBytesOutside (frameBytes s) s (s.pushFrame savedIp) := by
  rw [State.pushFrame_eq]
  generalize e1 : s.push16 s.flags.image = s1
  generalize e2 : s1.setFlags s.flags.mask = s2
  generalize e3 : s2.push16 s.segs.cs = s3
  have p1 : Plain s1 := e1 ▸ h.push16 _
  have n1 : s1.env = s.env := e1 ▸ (State.push16_env_plain h _).1
  have p2 : Plain s2 := e2 ▸ p1.of_env rfl
  have n2 : s2.env = s.env := by rw [← e2]; exact n1
  have p3 : Plain s3 := e3 ▸ p2.push16 _
  have n3 : s3.env = s.env := by rw [← e3, (State.push16_env_plain p2 _).1, n2]
  have g1 : s1.segs = s.segs := by rw [← e1]; simp
  have g2 : s2.segs = s.segs := by rw [← e2]; exact g1
  have g3 : s3.segs = s.segs := by rw [← e3]; simp [g2]
  have q1 : s1.regs.sp = s.regs.sp - 2 := by rw [← e1]; simp [Regs.set16]
  have q2 : s2.regs.sp = s.regs.sp - 2 := by rw [← e2]; exact q1
  have q3 : s3.regs.sp = s.regs.sp - 4 := by rw [← e3]; simp [Regs.set16, q2]; bv_omega
  have e24 : s.regs.sp - 2 - 2 = s.regs.sp - 4 := by bv_omega
  have e46 : s.regs.sp - 4 - 2 = s.regs.sp - 6 := by bv_omega
  have ram : ∀ {t : State}, t.env = s.env → ∀ off, accessBytes s.segs.ss off .word ⊆ frameBytes s →
      s.AllRam (frameBytes s) → t.AllRam (accessBytes s.segs.ss off .word) := fun en off sub k a ha => by
    rw [State.kindAt_congr en]; exact k a (sub ha)
  have sub2 : accessBytes s.segs.ss (s.regs.sp - 2) .word ⊆ frameBytes s := fun a ha =>
    List.mem_append_left _ (List.mem_append_left _ ha)
  have sub4 : accessBytes s.segs.ss (s.regs.sp - 4) .word ⊆ frameBytes s := fun a ha =>
    List.mem_append_left _ (List.mem_append_right _ ha)
  have sub6 : accessBytes s.segs.ss (s.regs.sp - 6) .word ⊆ frameBytes s := fun a ha =>
    List.mem_append_right _ ha
  have w2 : s.AllRam (frameBytes s) → s1.readSeg s.segs.ss (s.regs.sp - 2) .word = s.flags.image := fun k => by
    rw [← e1]; exact State.top16_push16 h _ (ram rfl _ sub2 k)
  have w4 : s.AllRam (frameBytes s) → s3.readSeg s.segs.ss (s.regs.sp - 4) .word = s.segs.cs := fun k => by
    have := State.top16_push16 p2 s.segs.cs (by rw [g2, q2, e24]; exact ram n2 _ sub4 k)
    rwa [g2, q2, e24, e3] at this
  have keep3 : s3.readSeg s.segs.ss (s.regs.sp - 2) .word = s1.readSeg s.segs.ss (s.regs.sp - 2) .word := by
    have := State.readSeg_push16 p2 s.segs.cs (s.regs.sp - 2) (by rw [q2]; bv_omega) (by rw [q2]; bv_omega)
      (by rw [q2]; bv_omega) (by rw [q2]; bv_omega)
    rw [g2, e3] at this
    rw [this]
    exact State.readSeg_congr p1 (by rw [← e2]; rfl) (by rw [← e2]; rfl) _ _ _
  have keep : ∀ off, off = s.regs.sp - 2 ∨ off = s.regs.sp - 4 →
      (s3.push16 savedIp).readSeg s.segs.ss off .word = s3.readSeg s.segs.ss off .word := fun off ho => by
    have := State.readSeg_push16 p3 savedIp off (by rw [q3]; rcases ho with rfl | rfl <;> bv_omega)
      (by rw [q3]; rcases ho with rfl | rfl <;> bv_omega) (by rw [q3]; rcases ho with rfl | rfl <;> bv_omega)
      (by rw [q3]; rcases ho with rfl | rfl <;> bv_omega)
    rwa [g3] at this
  refine ⟨fun k => ⟨?_, ?_, ?_⟩, fun a ha => ?_⟩
  · have := State.top16_push16 p3 savedIp (by rw [g3, q3, e46]; exact ram n3 _ sub6 k)
    rwa [g3, q3, e46] at this
  · rw [keep _ (Or.inr rfl), w4 k]
  · rw [keep _ (Or.inl rfl), keep3, w2 k]
  · have out : ∀ {t : State}, t.env = s.env → ∀ off, accessBytes s.segs.ss off .word ⊆ frameBytes s →
        a ∉ accessBytes s.segs.ss off .word ∨ t.kindAt a ≠ .ram := fun en off sub => by
      rw [State.kindAt_congr en]; exact ha.imp (fun hn hm => hn (sub hm)) id
    rw [State.push16_sameBytes p3 savedIp a (by rw [g3, q3, e46]; exact out n3 _ sub6), ← e3,
      State.push16_sameBytes p2 s.segs.cs a (by rw [g2, q2, e24]; exact out n2 _ sub4), ← e2]
    show s1.byteAt a = _
    rw [← e1, State.push16_sameBytes h _ a (out rfl _ sub2)]

/-- The entry of an interrupt does all that `Entered` says, and touches nothing of the host's side. -/
theorem State.interruptEntry_entered {s : State} (h : Plain s) (type : Byte) (savedIp : Word) :
    Entered type savedIp s (s.interruptEntry type savedIp) := by
  have hp := h.pushFrame savedIp
  have words := State.pushFrame_words h savedIp
  have en := State.interruptEntry_env_plain h type savedIp
  have hm : (s.interruptEntry type savedIp).mem = (s.pushFrame savedIp).mem := by
    rw [State.interruptEntry_plain h]; simp
  have hb : ∀ a, (s.interruptEntry type savedIp).byteAt a = (s.pushFrame savedIp).byteAt a := fun a => by
    unfold State.byteAt; rw [hm]
  have hw : ∀ a, (s.interruptEntry type savedIp).wordAt a = (s.pushFrame savedIp).wordAt a := fun a => by
    unfold State.wordAt; rw [hb, hb]
  have hr : ∀ sg off, (s.interruptEntry type savedIp).readSeg sg off .word = (s.pushFrame savedIp).readSeg sg off .word :=
    fun sg off => State.readSeg_congr hp (by rw [en.1, (State.pushFrame_env_plain h savedIp).1]) hm _ _ _
  have sp : (s.interruptEntry type savedIp).regs.sp = s.regs.sp - 6 := by
    simp only [State.interruptEntry_regs, Regs.set16]; bv_omega
  have ss : (s.interruptEntry type savedIp).segs.ss = s.segs.ss := by simp [Segs.set]
  refine ⟨⟨sp, fun k => ?_⟩, ?_, ?_, by simp [Flags.mask], fun g hg => ?_, fun r hr' => ?_, fun a ha => ?_, by simp,
    by simp, by simp, by simp⟩
  · obtain ⟨h6, h4, h2⟩ := words.1 k
    simp only [State.stackWord, hr, sp, ss]
    refine ⟨?_, ?_, ?_⟩
    · rw [show s.regs.sp - 6 + 4 = s.regs.sp - 2 by bv_omega]; exact h2
    · rw [show s.regs.sp - 6 + 2 = s.regs.sp - 4 by bv_omega]; exact h4
    · rw [show s.regs.sp - 6 + 0 = s.regs.sp - 6 by bv_omega]; exact h6
  · rw [State.interruptEntry_ip, State.vectorIp_plain hp, hw]
  · rw [hw, State.interruptEntry_segs, State.vectorCs_plain hp]; rfl
  · rw [State.interruptEntry_segs]; exact Segs.get_set_ne _ _ hg
  · rw [State.interruptEntry_regs]; exact Regs.get16_set16_ne _ _ (by simpa using hr')
  · rw [hb]; exact words.2 a ha

/-- The same of an interrupt taken at a boundary. -/
theorem State.enterBetween_entered {s : State} (h : Plain s) (type : Byte) (savedIp : Word) :
    Entered type savedIp s (s.enterBetween type savedIp) ∧ (s.enterBetween type savedIp).env = s.env := by
  have h' : Plain (s.setPre Prefixes.none) := h.of_env rfl
  rw [State.enterBetween_plain h]
  exact ⟨State.interruptEntry_entered h' type savedIp, (State.interruptEntry_env_plain h' type savedIp).1⟩

/-- A bit of a one-bit word. -/
theorem bitAt_getLsbD (i k : Nat) (b : Bool) : (bitAt i b).getLsbD k = (decide (k < 16) && (decide (k = i) && b)) := by
  unfold bitAt
  rw [BitVec.getLsbD_ofNat]
  cases b
  · simp
  · simp only [Bool.toNat_true, Nat.one_mul, Bool.and_true, Nat.testBit_two_pow]
    by_cases h : i = k <;> simp [h, eq_comm]

/-- What follows an instruction changes no register, flag or byte of memory. -/
theorem State.endInstr_follows (t : State) : Follows t t.endInstr := by
  unfold State.endInstr
  split <;> exact ⟨rfl, rfl, rfl, rfl, rfl⟩

/-- When no turn of the instruction is left, the prefix state is cleared and nothing is in progress. -/
theorem State.endInstr_idle (t : State) (h : t.progress.repeating = none) :
    t.endInstr.pre = Prefixes.none ∧ t.endInstr.progress.mid = false ∧ t.endInstr.progress.t0 = false
      ∧ t.endInstr.progress.repeating = none := by
  simp [State.endInstr, h]

/-- With nothing pending nothing is taken. -/
theorem State.takeExternal_none (t : State) (ip : Word) (h : t.latches.nmiPending = false)
    (k : t.env.intr = false ∨ t.flags.iF = false) : t.takeExternal ip = t := by
  rcases k with k | k <;> simp [State.takeExternal, h, k]

/-- `Entered` sees no more of the state after than these fields. -/
theorem Entered.congr {s t u : State} {type : Byte} {savedIp : Word} (h : Entered type savedIp s t) (hp : Plain t)
    (regs : u.regs = t.regs) (segs : u.segs = t.segs) (ip : u.ip = t.ip) (flags : u.flags = t.flags)
    (mem : u.mem = t.mem) (env : u.env = t.env) (latches : u.latches = t.latches) (stale : u.stale = t.stale)
    (pre : u.pre = Prefixes.none) (turn : u.progress.repeating = none) : Entered type savedIp s u := by
  obtain ⟨⟨h1, h2⟩, h3, h4, h5, h6, h7, h8, h9, -, -, h12⟩ := h
  have hr : ∀ sg off, u.readSeg sg off .word = t.readSeg sg off .word := fun _ _ => State.readSeg_congr hp env mem _ _ _
  have hb : ∀ a, u.byteAt a = t.byteAt a := fun a => by unfold State.byteAt; rw [mem]
  have hw : ∀ a, u.wordAt a = t.wordAt a := fun a => by unfold State.wordAt; rw [hb, hb]
  refine ⟨⟨by rw [regs, h1], fun k => ?_⟩, by rw [ip, hw, h3], by rw [segs, hw, h4], by rw [flags, h5],
    fun g hg => by rw [segs, h6 g hg], fun r hr => by rw [regs, h7 r hr], fun a ha => by rw [hb, h8 a ha],
    by rw [latches, h9], pre, turn, by rw [stale, h12]⟩
  simpa only [State.stackWord, hr, segs, regs] using h2 k

/-- The end of an instruction adds nothing to an entry. -/
theorem Entered.endInstr {s t : State} {type : Byte} {savedIp : Word} (h : Entered type savedIp s t) (hp : Plain t) :
    Entered type savedIp s t.endInstr := by
  have turn : t.progress.repeating = none := h.2.2.2.2.2.2.2.2.2.1
  have e : t.endInstr = (t.setPre Prefixes.none).setProgress
      { t.progress with mid := false, t0 := false, ssLoad := false } := by
    unfold State.endInstr; rw [turn]; rfl
  rw [e]
  exact h.congr hp rfl rfl rfl rfl rfl rfl rfl rfl rfl turn

/-- NMI taken: type 2 is entered, from the state with the latch cleared. -/
theorem State.takeNmi_entered {s : State} (h : Plain s) (savedIp : Word) :
    Entered 2 savedIp (s.setLatches { s.latches with nmiPending := false }) (s.takeNmi savedIp)
      ∧ (s.takeNmi savedIp).env = s.env :=
  State.enterBetween_entered (s := s.setLatches { s.latches with nmiPending := false }) (h.of_env rfl) 2 savedIp

/-- INTR taken: the type the acknowledge fetched is entered, and the host sees the acknowledge. -/
theorem State.takeIntr_entered {s : State} (h : Plain s) (savedIp : Word) :
    Entered s.ackByte savedIp s (s.takeIntr savedIp)
      ∧ (s.takeIntr savedIp).env
        = { s.env with ackIn := s.env.ackIn.tail, busLog := s.env.busLog ++ [.intAck s.ackByte] } := by
  have ha : s.afterAck = s.acknowledge := State.busCycle_plain h _
  have hp : Plain s.acknowledge := ⟨h.1, h.2.1, h.2.2⟩
  unfold State.takeIntr
  rw [ha]
  generalize hb : s.ackByte = b
  have k := State.enterBetween_entered hp b savedIp
  generalize s.acknowledge.enterBetween b savedIp = u at k
  refine ⟨?_, by rw [k.2]; subst hb; rfl⟩
  obtain ⟨h1, h3, h4, h5, h6, h7, h8, h9, h10, h11, h12⟩ := k.1
  exact ⟨h1, h3, h4, h5, h6, h7, h8, h9, h10, h11, h12⟩

/-- With no event of the host the step acts on the state itself. -/
theorem State.takeInputs_nil (s : State) (h : s.env.inputs = []) : s.takeInputs = s := by unfold State.takeInputs; rw [h]

/-- What a fetch sees does not turn on the place inside the instruction, the prefixes or the latches. -/
@[simp] theorem State.setProgress_fetchWindow (s : State) (v : Progress) :
    (s.setProgress v).fetchWindow = s.fetchWindow := rfl
@[simp] theorem State.setPre_fetchWindow (s : State) (v : Prefixes) : (s.setPre v).fetchWindow = s.fetchWindow := rfl
@[simp] theorem State.setLatches_fetchWindow (s : State) (v : Latches) :
    (s.setLatches v).fetchWindow = s.fetchWindow := rfl

/-- The order of a draw and of a change of the place inside the instruction does not matter. -/
theorem State.setProgress_setDraws (s : State) (v : Progress) (n : Nat) :
    (s.setProgress v).setDraws n = (s.setDraws n).setProgress v := rfl

end Sys2Proof.Machine
end

