-- ==== Sys2Proof/Laws/PerInstr.lean ====
section
/-! SUPPORT. Statements about every instruction, one lemma for each constructor. -/

namespace Sys2Proof.Laws

/-- The ModRM byte and its displacement are one to three bytes (30_encoding.md rule R85). -/
theorem encode_rm_length (reg : BitVec 3) (m : Rm) : 1 ≤ (Encode.rm reg m).length ∧ (Encode.rm reg m).length ≤ 3 := by
  rcases m with r | (a | ⟨b, d | d | d⟩) <;> exact ⟨Nat.le_of_ble_eq_true rfl, Nat.le_of_ble_eq_true rfl⟩

theorem encode_imm_length (v : Imm) : (Encode.immBytes v).length ≤ 2 := by
  cases v <;> exact Nat.le_of_ble_eq_true rfl

theorem encode_arith_length (v : ArithImm) : (Encode.arithBytes v).length ≤ 2 := by
  cases v <;> exact Nat.le_of_ble_eq_true rfl

/-- An opcode byte and what follows it. -/
theorem opcode_length (b : Byte) {l : List Byte} (h : l.length ≤ 5) : 1 ≤ (b :: l).length ∧ (b :: l).length ≤ 6 :=
  ⟨Nat.succ_le_succ (Nat.zero_le _), Nat.succ_le_succ h⟩

/-- An opcode byte, a ModRM byte with its displacement, and immediate data. -/
theorem opcode_rm_imm_length (b : Byte) (reg : BitVec 3) (m : Rm) {l : List Byte} (h : l.length ≤ 2) :
    1 ≤ (b :: (Encode.rm reg m ++ l)).length ∧ (b :: (Encode.rm reg m ++ l)).length ≤ 6 := by
  have := (encode_rm_length reg m).2
  exact opcode_length b (by rw [List.length_append]; omega)

theorem opcode_rm_length (b : Byte) (reg : BitVec 3) (m : Rm) :
    1 ≤ (b :: Encode.rm reg m).length ∧ (b :: Encode.rm reg m).length ≤ 6 :=
  opcode_length b (Nat.le_trans (encode_rm_length reg m).2 (by decide))

theorem opcode_imm_length (b : Byte) (v : Imm) :
    1 ≤ (b :: Encode.immBytes v).length ∧ (b :: Encode.immBytes v).length ≤ 6 :=
  opcode_length b (Nat.le_trans (encode_imm_length v) (by decide))

namespace EncodeLength

/-- The encoding of an instruction is one to six bytes long (30_encoding.md rule R112). -/
def Statement (i : Instr) : Prop := 1 ≤ (encode i).length ∧ (encode i).length ≤ 6

theorem addRmReg (w : Width) (d : Dir) (rm : Rm) (reg : Reg) : Statement (.addRmReg w d rm reg) :=
  opcode_rm_length _ _ rm
theorem addRmImm (imm : ArithImm) (rm : Rm) : Statement (.addRmImm imm rm) :=
  opcode_rm_imm_length _ _ rm (encode_arith_length imm)
theorem addAccImm (imm : Imm) : Statement (.addAccImm imm) := opcode_imm_length _ imm
theorem orRmReg (w : Width) (d : Dir) (rm : Rm) (reg : Reg) : Statement (.orRmReg w d rm reg) :=
  opcode_rm_length _ _ rm
theorem orRmImm (imm : Imm) (rm : Rm) : Statement (.orRmImm imm rm) :=
  opcode_rm_imm_length _ _ rm (encode_imm_length imm)
theorem orAccImm (imm : Imm) : Statement (.orAccImm imm) := opcode_imm_length _ imm
theorem adcRmReg (w : Width) (d : Dir) (rm : Rm) (reg : Reg) : Statement (.adcRmReg w d rm reg) :=
  opcode_rm_length _ _ rm
theorem adcRmImm (imm : ArithImm) (rm : Rm) : Statement (.adcRmImm imm rm) :=
  opcode_rm_imm_length _ _ rm (encode_arith_length imm)
theorem adcAccImm (imm : Imm) : Statement (.adcAccImm imm) := opcode_imm_length _ imm
theorem sbbRmReg (w : Width) (d : Dir) (rm : Rm) (reg : Reg) : Statement (.sbbRmReg w d rm reg) :=
  opcode_rm_length _ _ rm
theorem sbbRmImm (imm : ArithImm) (rm : Rm) : Statement (.sbbRmImm imm rm) :=
  opcode_rm_imm_length _ _ rm (encode_arith_length imm)
theorem sbbAccImm (imm : Imm) : Statement (.sbbAccImm imm) := opcode_imm_length _ imm
theorem andRmReg (w : Width) (d : Dir) (rm : Rm) (reg : Reg) : Statement (.andRmReg w d rm reg) :=
  opcode_rm_length _ _ rm
theorem andRmImm (imm : Imm) (rm : Rm) : Statement (.andRmImm imm rm) :=
  opcode_rm_imm_length _ _ rm (encode_imm_length imm)
theorem andAccImm (imm : Imm) : Statement (.andAccImm imm) := opcode_imm_length _ imm
theorem subRmReg (w : Width) (d : Dir) (rm : Rm) (reg : Reg) : Statement (.subRmReg w d rm reg) :=
  opcode_rm_length _ _ rm
theorem subRmImm (imm : ArithImm) (rm : Rm) : Statement (.subRmImm imm rm) :=
  opcode_rm_imm_length _ _ rm (encode_arith_length imm)
theorem subAccImm (imm : Imm) : Statement (.subAccImm imm) := opcode_imm_length _ imm
theorem xorRmReg (w : Width) (d : Dir) (rm : Rm) (reg : Reg) : Statement (.xorRmReg w d rm reg) :=
  opcode_rm_length _ _ rm
theorem xorRmImm (imm : Imm) (rm : Rm) : Statement (.xorRmImm imm rm) :=
  opcode_rm_imm_length _ _ rm (encode_imm_length imm)
theorem xorAccImm (imm : Imm) : Statement (.xorAccImm imm) := opcode_imm_length _ imm
theorem cmpRmReg (w : Width) (d : Dir) (rm : Rm) (reg : Reg) : Statement (.cmpRmReg w d rm reg) :=
  opcode_rm_length _ _ rm
theorem cmpRmImm (imm : ArithImm) (rm : Rm) : Statement (.cmpRmImm imm rm) :=
  opcode_rm_imm_length _ _ rm (encode_arith_length imm)
theorem cmpAccImm (imm : Imm) : Statement (.cmpAccImm imm) := opcode_imm_length _ imm
theorem pushSreg (sr : SReg) : Statement (.pushSreg sr) := opcode_length _ (Nat.le_of_ble_eq_true rfl)
theorem popEs : Statement .popEs := opcode_length _ (Nat.le_of_ble_eq_true rfl)
theorem popSs : Statement .popSs := opcode_length _ (Nat.le_of_ble_eq_true rfl)
theorem popDs : Statement .popDs := opcode_length _ (Nat.le_of_ble_eq_true rfl)
theorem seg (sr : SReg) : Statement (.seg sr) := opcode_length _ (Nat.le_of_ble_eq_true rfl)
theorem daa : Statement .daa := opcode_length _ (Nat.le_of_ble_eq_true rfl)
theorem das : Statement .das := opcode_length _ (Nat.le_of_ble_eq_true rfl)
theorem aaa : Statement .aaa := opcode_length _ (Nat.le_of_ble_eq_true rfl)
theorem aas : Statement .aas := opcode_length _ (Nat.le_of_ble_eq_true rfl)
theorem incR16 (reg : Reg) : Statement (.incR16 reg) := opcode_length _ (Nat.le_of_ble_eq_true rfl)
theorem decR16 (reg : Reg) : Statement (.decR16 reg) := opcode_length _ (Nat.le_of_ble_eq_true rfl)
theorem pushR16 (reg : Reg) : Statement (.pushR16 reg) := opcode_length _ (Nat.le_of_ble_eq_true rfl)
theorem popR16 (reg : Reg) : Statement (.popR16 reg) := opcode_length _ (Nat.le_of_ble_eq_true rfl)
theorem jo (disp : Byte) : Statement (.jo disp) := opcode_length _ (Nat.le_of_ble_eq_true rfl)
theorem jno (disp : Byte) : Statement (.jno disp) := opcode_length _ (Nat.le_of_ble_eq_true rfl)
theorem jb (disp : Byte) : Statement (.jb disp) := opcode_length _ (Nat.le_of_ble_eq_true rfl)
theorem jnb (disp : Byte) : Statement (.jnb disp) := opcode_length _ (Nat.le_of_ble_eq_true rfl)
theorem je (disp : Byte) : Statement (.je disp) := opcode_length _ (Nat.le_of_ble_eq_true rfl)
theorem jne (disp : Byte) : Statement (.jne disp) := opcode_length _ (Nat.le_of_ble_eq_true rfl)
theorem jbe (disp : Byte) : Statement (.jbe disp) := opcode_length _ (Nat.le_of_ble_eq_true rfl)
theorem jnbe (disp : Byte) : Statement (.jnbe disp) := opcode_length _ (Nat.le_of_ble_eq_true rfl)
theorem js (disp : Byte) : Statement (.js disp) := opcode_length _ (Nat.le_of_ble_eq_true rfl)
theorem jns (disp : Byte) : Statement (.jns disp) := opcode_length _ (Nat.le_of_ble_eq_true rfl)
theorem jp (disp : Byte) : Statement (.jp disp) := opcode_length _ (Nat.le_of_ble_eq_true rfl)
theorem jnp (disp : Byte) : Statement (.jnp disp) := opcode_length _ (Nat.le_of_ble_eq_true rfl)
theorem jl (disp : Byte) : Statement (.jl disp) := opcode_length _ (Nat.le_of_ble_eq_true rfl)
theorem jnl (disp : Byte) : Statement (.jnl disp) := opcode_length _ (Nat.le_of_ble_eq_true rfl)
theorem jle (disp : Byte) : Statement (.jle disp) := opcode_length _ (Nat.le_of_ble_eq_true rfl)
theorem jnle (disp : Byte) : Statement (.jnle disp) := opcode_length _ (Nat.le_of_ble_eq_true rfl)
theorem testRmReg (w : Width) (rm : Rm) (reg : Reg) : Statement (.testRmReg w rm reg) := opcode_rm_length _ _ rm
theorem xchgRmReg (w : Width) (rm : Rm) (reg : Reg) : Statement (.xchgRmReg w rm reg) := opcode_rm_length _ _ rm
theorem movRmReg (w : Width) (d : Dir) (rm : Rm) (reg : Reg) : Statement (.movRmReg w d rm reg) :=
  opcode_rm_length _ _ rm
theorem movRmSreg (rm : Rm) (sr : SReg) : Statement (.movRmSreg rm sr) := opcode_rm_length _ _ rm
theorem lea (reg : Reg) (m : MemRef) : Statement (.lea reg m) := opcode_rm_length _ _ (.mem m)
theorem movEsRm (rm : Rm) : Statement (.movEsRm rm) := opcode_rm_length _ _ rm
theorem movSsRm (rm : Rm) : Statement (.movSsRm rm) := opcode_rm_length _ _ rm
theorem movDsRm (rm : Rm) : Statement (.movDsRm rm) := opcode_rm_length _ _ rm
theorem popRm (rm : Rm) : Statement (.popRm rm) := opcode_rm_length _ _ rm
theorem nop : Statement .nop := opcode_length _ (Nat.le_of_ble_eq_true rfl)
theorem xchgAxCx : Statement .xchgAxCx := opcode_length _ (Nat.le_of_ble_eq_true rfl)
theorem xchgAxDxBx (reg : Reg) : Statement (.xchgAxDxBx reg) := opcode_length _ (Nat.le_of_ble_eq_true rfl)
theorem xchgAxIndex (reg : Reg) : Statement (.xchgAxIndex reg) := opcode_length _ (Nat.le_of_ble_eq_true rfl)
theorem cbw : Statement .cbw := opcode_length _ (Nat.le_of_ble_eq_true rfl)
theorem cwd : Statement .cwd := opcode_length _ (Nat.le_of_ble_eq_true rfl)
theorem callFar (off sgm : Word) : Statement (.callFar off sgm) := opcode_length _ (Nat.le_of_ble_eq_true rfl)
theorem wait : Statement .wait := opcode_length _ (Nat.le_of_ble_eq_true rfl)
theorem pushf : Statement .pushf := opcode_length _ (Nat.le_of_ble_eq_true rfl)
theorem popf : Statement .popf := opcode_length _ (Nat.le_of_ble_eq_true rfl)
theorem sahf : Statement .sahf := opcode_length _ (Nat.le_of_ble_eq_true rfl)
theorem lahf : Statement .lahf := opcode_length _ (Nat.le_of_ble_eq_true rfl)
theorem movAccMem (w : Width) (addr : Word) : Statement (.movAccMem w addr) :=
  opcode_length _ (Nat.le_of_ble_eq_true rfl)
theorem movMemAcc (w : Width) (addr : Word) : Statement (.movMemAcc w addr) :=
  opcode_length _ (Nat.le_of_ble_eq_true rfl)
theorem movs (w : Width) : Statement (.movs w) := opcode_length _ (Nat.le_of_ble_eq_true rfl)
theorem cmps (w : Width) : Statement (.cmps w) := opcode_length _ (Nat.le_of_ble_eq_true rfl)
theorem stos (w : Width) : Statement (.stos w) := opcode_length _ (Nat.le_of_ble_eq_true rfl)
theorem lods (w : Width) : Statement (.lods w) := opcode_length _ (Nat.le_of_ble_eq_true rfl)
theorem scas (w : Width) : Statement (.scas w) := opcode_length _ (Nat.le_of_ble_eq_true rfl)
theorem testAccImm (imm : Imm) : Statement (.testAccImm imm) := opcode_imm_length _ imm
theorem movRegImm (imm : Imm) (reg : Reg) : Statement (.movRegImm imm reg) := opcode_imm_length _ imm
theorem retNearImm (n : Word) : Statement (.retNearImm n) := opcode_length _ (Nat.le_of_ble_eq_true rfl)
theorem retNear : Statement .retNear := opcode_length _ (Nat.le_of_ble_eq_true rfl)
theorem les (reg : Reg) (m : MemRef) : Statement (.les reg m) := opcode_rm_length _ _ (.mem m)
theorem lds (reg : Reg) (m : MemRef) : Statement (.lds reg m) := opcode_rm_length _ _ (.mem m)
theorem movRmImm (imm : Imm) (rm : Rm) : Statement (.movRmImm imm rm) :=
  opcode_rm_imm_length _ _ rm (encode_imm_length imm)
theorem retFarImm (n : Word) : Statement (.retFarImm n) := opcode_length _ (Nat.le_of_ble_eq_true rfl)
theorem retFar : Statement .retFar := opcode_length _ (Nat.le_of_ble_eq_true rfl)
theorem int3 : Statement .int3 := opcode_length _ (Nat.le_of_ble_eq_true rfl)
theorem int (type : Byte) : Statement (.int type) := opcode_length _ (Nat.le_of_ble_eq_true rfl)
theorem into : Statement .into := opcode_length _ (Nat.le_of_ble_eq_true rfl)
theorem iret : Statement .iret := opcode_length _ (Nat.le_of_ble_eq_true rfl)
theorem rol (w : Width) (v : Count) (rm : Rm) : Statement (.rol w v rm) := opcode_rm_length _ _ rm
theorem ror (w : Width) (v : Count) (rm : Rm) : Statement (.ror w v rm) := opcode_rm_length _ _ rm
theorem rcl (w : Width) (v : Count) (rm : Rm) : Statement (.rcl w v rm) := opcode_rm_length _ _ rm
theorem rcr (w : Width) (v : Count) (rm : Rm) : Statement (.rcr w v rm) := opcode_rm_length _ _ rm
theorem shl (w : Width) (v : Count) (rm : Rm) : Statement (.shl w v rm) := opcode_rm_length _ _ rm
theorem shr (w : Width) (v : Count) (rm : Rm) : Statement (.shr w v rm) := opcode_rm_length _ _ rm
theorem sar (w : Width) (v : Count) (rm : Rm) : Statement (.sar w v rm) := opcode_rm_length _ _ rm
theorem aam : Statement .aam := opcode_length _ (Nat.le_of_ble_eq_true rfl)
theorem aad : Statement .aad := opcode_length _ (Nat.le_of_ble_eq_true rfl)
theorem xlat : Statement .xlat := opcode_length _ (Nat.le_of_ble_eq_true rfl)
theorem esc (op : BitVec 6) (rm : Rm) : Statement (.esc op rm) := opcode_rm_length _ _ rm
theorem loopnz (disp : Byte) : Statement (.loopnz disp) := opcode_length _ (Nat.le_of_ble_eq_true rfl)
theorem loopz (disp : Byte) : Statement (.loopz disp) := opcode_length _ (Nat.le_of_ble_eq_true rfl)
theorem loop (disp : Byte) : Statement (.loop disp) := opcode_length _ (Nat.le_of_ble_eq_true rfl)
theorem jcxz (disp : Byte) : Statement (.jcxz disp) := opcode_length _ (Nat.le_of_ble_eq_true rfl)
theorem inImm (w : Width) (port : Byte) : Statement (.inImm w port) := opcode_length _ (Nat.le_of_ble_eq_true rfl)
theorem outImm (w : Width) (port : Byte) : Statement (.outImm w port) := opcode_length _ (Nat.le_of_ble_eq_true rfl)
theorem callNear (disp : Word) : Statement (.callNear disp) := opcode_length _ (Nat.le_of_ble_eq_true rfl)
theorem jmpNear (disp : Word) : Statement (.jmpNear disp) := opcode_length _ (Nat.le_of_ble_eq_true rfl)
theorem jmpFar (off sgm : Word) : Statement (.jmpFar off sgm) := opcode_length _ (Nat.le_of_ble_eq_true rfl)
theorem jmpShort (disp : Byte) : Statement (.jmpShort disp) := opcode_length _ (Nat.le_of_ble_eq_true rfl)
theorem inDx (w : Width) : Statement (.inDx w) := opcode_length _ (Nat.le_of_ble_eq_true rfl)
theorem outDx (w : Width) : Statement (.outDx w) := opcode_length _ (Nat.le_of_ble_eq_true rfl)
theorem lock : Statement .lock := opcode_length _ (Nat.le_of_ble_eq_true rfl)
theorem repne : Statement .repne := opcode_length _ (Nat.le_of_ble_eq_true rfl)
theorem rep : Statement .rep := opcode_length _ (Nat.le_of_ble_eq_true rfl)
theorem hlt : Statement .hlt := opcode_length _ (Nat.le_of_ble_eq_true rfl)
theorem cmc : Statement .cmc := opcode_length _ (Nat.le_of_ble_eq_true rfl)
theorem testRmImm (imm : Imm) (rm : Rm) : Statement (.testRmImm imm rm) :=
  opcode_rm_imm_length _ _ rm (encode_imm_length imm)
theorem not (w : Width) (rm : Rm) : Statement (.not w rm) := opcode_rm_length _ _ rm
theorem neg (w : Width) (rm : Rm) : Statement (.neg w rm) := opcode_rm_length _ _ rm
theorem mul (w : Width) (rm : Rm) : Statement (.mul w rm) := opcode_rm_length _ _ rm
theorem imul (w : Width) (rm : Rm) : Statement (.imul w rm) := opcode_rm_length _ _ rm
theorem div (w : Width) (rm : Rm) : Statement (.div w rm) := opcode_rm_length _ _ rm
theorem idiv (w : Width) (rm : Rm) : Statement (.idiv w rm) := opcode_rm_length _ _ rm
theorem clc : Statement .clc := opcode_length _ (Nat.le_of_ble_eq_true rfl)
theorem stc : Statement .stc := opcode_length _ (Nat.le_of_ble_eq_true rfl)
theorem cli : Statement .cli := opcode_length _ (Nat.le_of_ble_eq_true rfl)
theorem sti : Statement .sti := opcode_length _ (Nat.le_of_ble_eq_true rfl)
theorem cld : Statement .cld := opcode_length _ (Nat.le_of_ble_eq_true rfl)
theorem std : Statement .std := opcode_length _ (Nat.le_of_ble_eq_true rfl)
theorem incRm (w : Width) (rm : Rm) : Statement (.incRm w rm) := opcode_rm_length _ _ rm
theorem decRm (w : Width) (rm : Rm) : Statement (.decRm w rm) := opcode_rm_length _ _ rm
theorem callRm (rm : Rm) : Statement (.callRm rm) := opcode_rm_length _ _ rm
theorem callFarMem (m : MemRef) : Statement (.callFarMem m) := opcode_rm_length _ _ (.mem m)
theorem jmpRm (rm : Rm) : Statement (.jmpRm rm) := opcode_rm_length _ _ rm
theorem jmpFarMem (m : MemRef) : Statement (.jmpFarMem m) := opcode_rm_length _ _ (.mem m)
theorem pushRm (rm : Rm) : Statement (.pushRm rm) := opcode_rm_length _ _ rm

end EncodeLength

end Sys2Proof.Laws
end

