-- ==== Sys2Proof/Tests/Slice0.lean ====
section
/-! SUPPORT. Tests: the well-formedness checks, every constructor decoded from a word written out from the spec's
encoding line, one step of an instruction with the values of the spec's own vectors (95_test_vectors.md,
96_test_vectors_control.md), and for every statement with hypotheses a state that meets them. -/

namespace Sys2Proof.Tests
open Sys2Proof Sys2Proof.Machine

/-! ## Well-formedness: what has no encoding is refused -/

theorem test_wf_refuses_bp_without_displacement : (Instr.incRm .byte (.mem (.based .bp .none))).wf = false := by decide
theorem test_wf_refuses_lea_bp_without_displacement : (Instr.lea .axAl (.based .bp .none)).wf = false := by decide
theorem test_wf_refuses_xchg_dx_bx_row_with_cx : (Instr.xchgAxDxBx .cxCl).wf = false := by decide
theorem test_wf_refuses_xchg_index_row_with_ax : (Instr.xchgAxIndex .axAl).wf = false := by decide
theorem test_wf_admits_their_neighbours :
    (Instr.incRm .byte (.mem (.based .bp (.d8 0)))).wf ∧ (Instr.lea .axAl (.based .bx .none)).wf
      ∧ (Instr.xchgAxDxBx .dxDl).wf ∧ (Instr.xchgAxIndex .diBh).wf := by decide

/-! ## Decoding: each word is written from the encoding line of its rule, first byte first -/

/-- These bytes are exactly this instruction. -/
abbrev Decodes (bs : List Byte) (i : Instr) : Prop := decode bs = .ok (i, bs.length)

/-- 00 ooo 0 d w | mod reg r/m, for o = 0 to 7 (R161, R227, R164, R174, R221, R171, R230, R181). -/
theorem test_decode_two_operand :
    Decodes [0x00, 0xD8] (.addRmReg .byte .fromReg (.reg .axAl) .bxBl)
      ∧ Decodes [0x0B, 0x07] (.orRmReg .word .toReg (.mem (.based .bx .none)) .axAl)
      ∧ Decodes [0x12, 0x4C, 0x80] (.adcRmReg .byte .toReg (.mem (.based .si (.d8 0x80))) .cxCl)
      ∧ Decodes [0x19, 0xD1] (.sbbRmReg .word .fromReg (.reg .cxCl) .dxDl)
      ∧ Decodes [0x22, 0x1E, 0x34, 0x12] (.andRmReg .byte .toReg (.mem (.direct 0x1234)) .bxBl)
      ∧ Decodes [0x29, 0xA0, 0x00, 0xF0] (.subRmReg .word .fromReg (.mem (.based .bxSi (.d16 0xF000))) .spAh)
      ∧ Decodes [0x31, 0xC0] (.xorRmReg .word .fromReg (.reg .axAl) .axAl)
      ∧ Decodes [0x38, 0x6E, 0x00] (.cmpRmReg .byte .fromReg (.mem (.based .bp (.d8 0))) .bpCh) := by decide

/-- 100000 s w | mod ooo r/m | data (R162, R228, R165, R175, R222, R172, R231, R182; R92). -/
theorem test_decode_immediate_group :
    Decodes [0x83, 0xC3, 0xFF] (.addRmImm (.op83 0xFF) (.reg .bxBl))
      ∧ Decodes [0x80, 0x0E, 0x00, 0x02, 0x80] (.orRmImm (.byte 0x80) (.mem (.direct 0x0200)))
      ∧ Decodes [0x82, 0xD0, 0x05] (.adcRmImm (.op82 0x05) (.reg .axAl))
      ∧ Decodes [0x81, 0x59, 0x02, 0x34, 0x12] (.sbbRmImm (.op81 0x1234) (.mem (.based .bxDi (.d8 0x02))))
      ∧ Decodes [0x81, 0xE3, 0x00, 0xFF] (.andRmImm (.word 0xFF00) (.reg .bxBl))
      ∧ Decodes [0x80, 0x2A, 0x01] (.subRmImm (.op80 0x01) (.mem (.based .bpSi .none)))
      ∧ Decodes [0x81, 0x33, 0x55, 0xAA] (.xorRmImm (.word 0xAA55) (.mem (.based .bpDi .none)))
      ∧ Decodes [0x81, 0x3E, 0x00, 0x02, 0x34, 0x12] (.cmpRmImm (.op81 0x1234) (.mem (.direct 0x0200))) := by decide

/-- 00 ooo 10 w | data (R163, R229, R166, R176, R223, R173, R232, R183), and TEST's 1010100 w (R226). -/
theorem test_decode_accumulator_immediate :
    Decodes [0x04, 0x35] (.addAccImm (.byte 0x35)) ∧ Decodes [0x0D, 0x00, 0x80] (.orAccImm (.word 0x8000))
      ∧ Decodes [0x14, 0x01] (.adcAccImm (.byte 0x01)) ∧ Decodes [0x1D, 0x02, 0x01] (.sbbAccImm (.word 0x0102))
      ∧ Decodes [0x24, 0x0F] (.andAccImm (.byte 0x0F)) ∧ Decodes [0x2D, 0xFF, 0x7F] (.subAccImm (.word 0x7FFF))
      ∧ Decodes [0x34, 0xFF] (.xorAccImm (.byte 0xFF)) ∧ Decodes [0x3D, 0x00, 0x80] (.cmpAccImm (.word 0x8000))
      ∧ Decodes [0xA8, 0x20] (.testAccImm (.byte 0x20)) := by decide

/-- 000 sr 110, 000 sr 111, 001 sr 110 (R127, R131, R335), 01010 reg, 01011 reg (R133, R130), FFh /6, 8Fh /0 (R126,
R129). -/
theorem test_decode_push_pop :
    Decodes [0x0E] (.pushSreg .cs) ∧ Decodes [0x1E] (.pushSreg .ds) ∧ Decodes [0x07] .popEs ∧ Decodes [0x17] .popSs
      ∧ Decodes [0x1F] .popDs ∧ Decodes [0x26] (.seg .es) ∧ Decodes [0x36] (.seg .ss)
      ∧ Decodes [0x54] (.pushR16 .spAh) ∧ Decodes [0x5B] (.popR16 .bxBl)
      ∧ Decodes [0xFF, 0x77, 0x02] (.pushRm (.mem (.based .bx (.d8 0x02))))
      ∧ Decodes [0x8F, 0x06, 0x00, 0x02] (.popRm (.mem (.direct 0x0200))) := by decide

/-- MOV in its forms (R120 to R125, R132). -/
theorem test_decode_mov :
    Decodes [0x88, 0xCA] (.movRmReg .byte .fromReg (.reg .dxDl) .cxCl)
      ∧ Decodes [0x8B, 0x45, 0xFC] (.movRmReg .word .toReg (.mem (.based .di (.d8 0xFC))) .axAl)
      ∧ Decodes [0xC6, 0x44, 0x01, 0xFF] (.movRmImm (.byte 0xFF) (.mem (.based .si (.d8 0x01))))
      ∧ Decodes [0xB4, 0x12] (.movRegImm (.byte 0x12) .spAh) ∧ Decodes [0xBF, 0x07, 0x00] (.movRegImm (.word 7) .diBh)
      ∧ Decodes [0xA0, 0x34, 0x12] (.movAccMem .byte 0x1234) ∧ Decodes [0xA3, 0x00, 0x03] (.movMemAcc .word 0x0300)
      ∧ Decodes [0x8E, 0xC0] (.movEsRm (.reg .axAl)) ∧ Decodes [0x8E, 0xD3] (.movSsRm (.reg .bxBl))
      ∧ Decodes [0x8E, 0x1F] (.movDsRm (.mem (.based .bx .none))) ∧ Decodes [0x8C, 0xC8] (.movRmSreg (.reg .axAl) .cs)
      := by decide

/-- XCHG, NOP, TEST, LEA, LDS, LES, XLAT, flag transfers (R137, R138, R224, R225, R143 to R151). -/
theorem test_decode_transfers :
    Decodes [0x86, 0xE0] (.xchgRmReg .byte (.reg .axAl) .spAh) ∧ Decodes [0x90] .nop ∧ Decodes [0x91] .xchgAxCx
      ∧ Decodes [0x93] (.xchgAxDxBx .bxBl) ∧ Decodes [0x94] (.xchgAxIndex .spAh)
      ∧ Decodes [0x84, 0xC0] (.testRmReg .byte (.reg .axAl) .axAl)
      ∧ Decodes [0xF7, 0x06, 0x00, 0x02, 0x34, 0x12] (.testRmImm (.word 0x1234) (.mem (.direct 0x0200)))
      ∧ Decodes [0x8D, 0x9E, 0x00, 0x01] (.lea .bxBl (.based .bp (.d16 0x0100)))
      ∧ Decodes [0xC5, 0x5C, 0x04] (.lds .bxBl (.based .si (.d8 0x04)))
      ∧ Decodes [0xC4, 0x3E, 0x00, 0x02] (.les .diBh (.direct 0x0200)) ∧ Decodes [0xD7] .xlat
      ∧ Decodes [0x9F] .lahf ∧ Decodes [0x9E] .sahf ∧ Decodes [0x9C] .pushf ∧ Decodes [0x9D] .popf := by decide

/-- IN and OUT (R139 to R142). -/
theorem test_decode_ports :
    Decodes [0xE4, 0x60] (.inImm .byte 0x60) ∧ Decodes [0xED] (.inDx .word) ∧ Decodes [0xE7, 0x61] (.outImm .word 0x61)
      ∧ Decodes [0xEE] (.outDx .byte) := by decide

/-- INC, DEC, the F6h and F7h group (R167, R168, R177 to R179, R186, R187, R191, R192, R210). -/
theorem test_decode_arithmetic :
    Decodes [0xFE, 0xC4] (.incRm .byte (.reg .spAh)) ∧ Decodes [0x46] (.incR16 .siDh)
      ∧ Decodes [0xFF, 0x0F] (.decRm .word (.mem (.based .bx .none))) ∧ Decodes [0x4D] (.decR16 .bpCh)
      ∧ Decodes [0xF6, 0xD0] (.not .byte (.reg .axAl)) ∧ Decodes [0xF7, 0xDB] (.neg .word (.reg .bxBl))
      ∧ Decodes [0xF6, 0xE3] (.mul .byte (.reg .bxBl)) ∧ Decodes [0xF7, 0xEB] (.imul .word (.reg .bxBl))
      ∧ Decodes [0xF6, 0x36, 0x00, 0x03] (.div .byte (.mem (.direct 0x0300)))
      ∧ Decodes [0xF7, 0xFB] (.idiv .word (.reg .bxBl)) := by decide

/-- The adjustments and the sign extensions (R169, R170, R184, R185, R190, R193, R195, R196). -/
theorem test_decode_adjustments :
    Decodes [0x27] .daa ∧ Decodes [0x2F] .das
      ∧ Decodes [0x37] .aaa ∧ Decodes [0x3F] .aas ∧ Decodes [0xD4, 0x0A] .aam ∧ Decodes [0xD5, 0x0A] .aad
      ∧ Decodes [0x98] .cbw ∧ Decodes [0x99] .cwd := by decide

/-- 110100 v w | mod ttt r/m (R214 to R220). -/
theorem test_decode_shifts :
    Decodes [0xD0, 0xC0] (.rol .byte .one (.reg .axAl)) ∧ Decodes [0xD1, 0xC8] (.ror .word .one (.reg .axAl))
      ∧ Decodes [0xD2, 0xD0] (.rcl .byte .cl (.reg .axAl))
      ∧ Decodes [0xD1, 0x1E, 0x00, 0x02] (.rcr .word .one (.mem (.direct 0x0200)))
      ∧ Decodes [0xD3, 0xE0] (.shl .word .cl (.reg .axAl)) ∧ Decodes [0xD0, 0xE8] (.shr .byte .one (.reg .axAl))
      ∧ Decodes [0xD3, 0xF8] (.sar .word .cl (.reg .axAl)) := by decide

/-- 1010 010 w to 1010 111 w (R244 to R248). -/
theorem test_decode_strings :
    Decodes [0xA4] (.movs .byte) ∧ Decodes [0xA7] (.cmps .word) ∧ Decodes [0xAA] (.stos .byte)
      ∧ Decodes [0xAD] (.lods .word) ∧ Decodes [0xAE] (.scas .byte) := by decide

/-- 0111 cccc | disp (R281 to R296). -/
theorem test_decode_conditional_jumps :
    Decodes [0x70, 0x10] (.jo 0x10) ∧ Decodes [0x71, 0x10] (.jno 0x10) ∧ Decodes [0x72, 0x10] (.jb 0x10)
      ∧ Decodes [0x73, 0x10] (.jnb 0x10) ∧ Decodes [0x74, 0x05] (.je 0x05) ∧ Decodes [0x75, 0xFB] (.jne 0xFB)
      ∧ Decodes [0x76, 0x10] (.jbe 0x10) ∧ Decodes [0x77, 0x10] (.jnbe 0x10) ∧ Decodes [0x78, 0x10] (.js 0x10)
      ∧ Decodes [0x79, 0x10] (.jns 0x10) ∧ Decodes [0x7A, 0x10] (.jp 0x10) ∧ Decodes [0x7B, 0x10] (.jnp 0x10)
      ∧ Decodes [0x7C, 0x10] (.jl 0x10) ∧ Decodes [0x7D, 0x10] (.jnl 0x10) ∧ Decodes [0x7E, 0x10] (.jle 0x10)
      ∧ Decodes [0x7F, 0x10] (.jnle 0x10) := by decide

/-- CALL, JMP, RET (R260 to R273). -/
theorem test_decode_control_transfer :
    Decodes [0xE8, 0xFD, 0xFF] (.callNear 0xFFFD) ∧ Decodes [0xFF, 0x16, 0x00, 0x03] (.callRm (.mem (.direct 0x0300)))
      ∧ Decodes [0x9A, 0x34, 0x12, 0x00, 0x20] (.callFar 0x1234 0x2000)
      ∧ Decodes [0xFF, 0x1E, 0x00, 0x03] (.callFarMem (.direct 0x0300)) ∧ Decodes [0xE9, 0xFD, 0x0E] (.jmpNear 0x0EFD)
      ∧ Decodes [0xEB, 0x80] (.jmpShort 0x80) ∧ Decodes [0xFF, 0xE3] (.jmpRm (.reg .bxBl))
      ∧ Decodes [0xEA, 0x00, 0x01, 0x00, 0xF0] (.jmpFar 0x0100 0xF000)
      ∧ Decodes [0xFF, 0x2F] (.jmpFarMem (.based .bx .none)) ∧ Decodes [0xC3] .retNear
      ∧ Decodes [0xC2, 0x04, 0x00] (.retNearImm 4) ∧ Decodes [0xCB] .retFar ∧ Decodes [0xCA, 0x02, 0x00] (.retFarImm 2)
      := by decide

/-- The loops, INT, INTO, IRET (R299 to R305, R308). -/
theorem test_decode_loops_and_interrupts :
    Decodes [0xE2, 0xFE] (.loop 0xFE) ∧ Decodes [0xE1, 0xFE] (.loopz 0xFE) ∧ Decodes [0xE0, 0xFE] (.loopnz 0xFE)
      ∧ Decodes [0xE3, 0x10] (.jcxz 0x10) ∧ Decodes [0xCD, 0x21] (.int 0x21) ∧ Decodes [0xCC] .int3
      ∧ Decodes [0xCE] .into ∧ Decodes [0xCF] .iret := by decide

/-- The processor control instructions and the other prefixes (R320 to R334, R241). -/
theorem test_decode_processor_control :
    Decodes [0xF8] .clc ∧ Decodes [0xF5] .cmc ∧ Decodes [0xF9] .stc ∧ Decodes [0xFC] .cld ∧ Decodes [0xFD] .std
      ∧ Decodes [0xFA] .cli ∧ Decodes [0xFB] .sti ∧ Decodes [0xF4] .hlt ∧ Decodes [0x9B] .wait
      ∧ Decodes [0xDD, 0x9C, 0x00, 0x01] (.esc 0x2B (.mem (.based .si (.d16 0x0100)))) ∧ Decodes [0xF0] .lock
      ∧ Decodes [0xF2] .repne ∧ Decodes [0xF3] .rep := by decide

/-- What is no instruction, each by its name (R105, R106, R108, R110, R111; vectors DT18, DT30, DT44, LG6, LG38,
      AR57). -/
theorem test_decode_refuses :
    decode [0x8E, 0xC8] = .error .movCs ∧ decode [0x0F] = .error .popCs
      ∧ decode [0x8D, 0xC0] = .error (.registerForm 0x8D) ∧ decode [0xFF, 0xDB] = .error (.registerForm 0xFF)
      ∧ decode [0x83, 0xE3, 0x0F] = .error (.extension 0x83 4) ∧ decode [0xD0, 0xF0] = .error (.extension 0xD0 6)
      ∧ decode [0xD4, 0x10] = .error (.adjustBase 0xD4 0x10) ∧ decode [0x60] = .error (.unassigned 0x60)
      ∧ decode [0x8C, 0xE0] = .error (.extension 0x8C 4) ∧ decode [0xC7, 0x06] = .error .truncated := by decide

/-! ## One step: bytes at CS:IP, the start state of 95_test_vectors.md section 2, and the end the vector gives -/

/-- The common start state: CS = 0800h, IP = 0100h, SP = 0200h, everything else 0, no event of the host. -/
def start : State :=
  (((State.reset.setRegs { State.reset.regs with sp := 0x0200 }).setSegs { es := 0, cs := 0x0800, ss := 0, ds := 0
      }).setIp
    0x0100).setProgress Progress.idle

/-- AX, BX, CX, DX of the start state. -/
def withData (ax bx cx dx : Word) : State :=
  start.setRegs { start.regs with ax := ax, bx := bx, cx := cx, dx := dx }

/-- Bytes of memory set before the step. -/
def poke (cells : List Host.Cell) (s : State) : State :=
  cells.foldl (fun t c => t.setMem (Memory.write t.mem c.1 c.2)) s

/-- One step on the bytes placed at CS:IP ends in a state of which `p` holds. -/
def runs (bs : List Byte) (s : State) (p : State → Bool) : Bool :=
  match step (s.placeInstr bs) with
  | .next t => p t
  | .fault _ => false
  | .refused _ => false

/-- OF, SF, ZF, AF, PF, CF. -/
def flagRow (s : State) : List Bool := [s.flags.oF, s.flags.sf, s.flags.zf, s.flags.af, s.flags.pf, s.flags.cf]

/-- The bytes at the addresses. -/
def bytesAt (s : State) (as : List Nat) : List Byte := as.map s.byteAt

/-- Vector DT5. -/
theorem test_mov_register_halves : (runs [0x88, 0xCA] (withData 0 0 0x0034 0xFFFF) fun t =>
    t.regs.dx == 0xFF34 && t.regs.cx == 0x0034 && t.ip == 0x0102) = true := by decide

/-- Vector DT8. -/
theorem test_mov_bp_uses_ss : (runs [0x8B, 0x46, 0xFE]
    (poke [(0x400FE, 0x11), (0x400FF, 0x22), (0x500FE, 0x33)] ((start.setRegs { start.regs with bp := 0x0100
      }).setSegs { start.segs with ss := 0x4000, ds := 0x5000 })) fun t =>
    t.regs.ax == 0x2211 && t.ip == 0x0103) = true := by decide

/-- Vector DT14. -/
theorem test_mov_immediate_to_memory : (runs [0xC7, 0x47, 0x02, 0x34, 0x12] (withData 0 0x0300 0 0) fun t =>
    bytesAt t [0x302, 0x303] == [0x34, 0x12] && t.ip == 0x0105) = true := by decide

/-- Vector DT2. -/
theorem test_mov_immediate_to_register : (runs [0xBF, 0x07, 0x00] (start) fun t =>
    t.regs.di == 7 && t.ip == 0x0103) = true := by decide

/-- Vector DT4. -/
theorem test_mov_accumulator_from_memory : (runs [0xA0, 0x34, 0x12]
    (poke [(0x21234, 0xCD)] ((withData 0x5500 0 0 0).setSegs { start.segs with ds := 0x2000 })) fun t =>
    t.regs.ax == 0x55CD) = true := by decide

/-- Vector DT15. -/
theorem test_mov_memory_from_accumulator : (runs [0xA3, 0x00, 0x03] (withData 0xCAFE 0 0 0) fun t =>
    bytesAt t [0x300, 0x301] == [0xFE, 0xCA]) = true := by decide

/-- Vector DT16. -/
theorem test_mov_ds : (runs [0x8E, 0xD8] (withData 0x1234 0 0 0) fun t =>
    t.segs.ds == 0x1234 && t.segs.es == 0) = true := by decide

/-- Vector DT17. -/
theorem test_mov_from_cs : (runs [0x8C, 0xC8] (start.setSegs { start.segs with cs := 0x0F00 }) fun t =>
    t.regs.ax == 0x0F00) = true := by decide

/-- Vector DT20. -/
theorem test_push_sp_stores_new_sp : (runs [0x54] (start.setRegs { start.regs with sp := 0x0100 }) fun t =>
    t.regs.sp == 0x00FE && bytesAt t [0xFE, 0xFF] == [0xFE, 0x00]) = true := by decide

/-- Vector DT21. -/
theorem test_push_wraps : (runs [0x50] (((withData 0x1234 0 0 0).setReg16 .spAh 1).setSeg .ss 0x2000) fun t =>
    t.regs.sp == 0xFFFF && bytesAt t [0x2FFFF, 0x20000] == [0x34, 0x12]) = true := by decide

/-- Vector DT26. -/
theorem test_push_memory : (runs [0xFF, 0x36, 0x00, 0x02]
    (poke [(0x200, 0xAA), (0x201, 0x55)] (start.setReg16 .spAh 0x0100)) fun t =>
    t.regs.sp == 0x00FE && bytesAt t [0xFE, 0xFF] == [0xAA, 0x55]) = true := by decide

/-- Vector DT28. -/
theorem test_push_ds : (runs [0x1E] ((start.setReg16 .spAh 0x0100).setSeg .ds 0x2345) fun t =>
    bytesAt t [0xFE, 0xFF] == [0x45, 0x23]) = true := by decide

/-- Vector DT24. -/
theorem test_pop_sp : (runs [0x5C] (poke [(0xFE, 0x00), (0xFF, 0x30)] (start.setReg16 .spAh 0x00FE)) fun t =>
    t.regs.sp == 0x3000) = true := by decide

/-- Vector DT27. -/
theorem test_pop_memory : (runs [0x8F, 0x06, 0x00, 0x02]
    (poke [(0xFE, 0x78), (0xFF, 0x56)] (start.setReg16 .spAh 0x00FE)) fun t =>
    t.regs.sp == 0x0100 && bytesAt t [0x200, 0x201] == [0x78, 0x56]) = true := by decide

/-- Vector DT29. -/
theorem test_pop_es : (runs [0x07] (poke [(0xFE, 0x00), (0xFF, 0xB8)] (start.setReg16 .spAh 0x00FE)) fun t =>
    t.segs.es == 0xB800 && t.regs.sp == 0x0100) = true := by decide

/-- Vector DT33. -/
theorem test_xchg_halves : (runs [0x86, 0xE0] (withData 0x12EF 0 0 0) fun t =>
    t.regs.ax == 0xEF12) = true := by decide

/-- Vector DT31. -/
theorem test_xchg_ax : (runs [0x93] (withData 0x1111 0x2222 0 0) fun t =>
    t.regs.ax == 0x2222 && t.regs.bx == 0x1111) = true := by decide

/-- Vector DT37. -/
theorem test_in_word : (runs [0xED] ((withData 0 0 0 0x3000).setEnv { start.env with portIn := [0xA5, 0x5A] }) fun t =>
    t.regs.ax == 0x5AA5 && t.env.busLog == [.ioRead 0x3000 0xA5, .ioRead 0x3001 0x5A]) = true := by decide

/-- Vector DT35. -/
theorem test_in_fixed_port : (runs [0xE4, 0x60]
    ((withData 0xFFFF 0 0 0).setEnv { start.env with portIn := [0x1C] }) fun t =>
    t.regs.ax == 0xFF1C) = true := by decide

/-- Vector DT40. -/
theorem test_out_word_wraps : (runs [0xEF] (withData 0x1234 0 0 0xFFFF) fun t =>
    t.env.busLog == [.ioWrite 0xFFFF 0x34, .ioWrite 0 0x12]) = true := by decide

/-- Vector DT38. -/
theorem test_out_fixed_port : (runs [0xE6, 0x61] (withData 3 0 0 0) fun t =>
    t.env.busLog == [.ioWrite 0x0061 0x03]) = true := by decide

/-- Vector DT42. -/
theorem test_xlat_wraps : (runs [0xD7] (poke [(0x00001, 0x66), (0x10001, 0x77)] (withData 2 0xFFFF 0 0)) fun t =>
    t.regs.ax == 0x0066) = true := by decide

/-- Vector DT43. -/
theorem test_lea : (runs [0x8D, 0x40, 0x05] ((withData 0 0x1000 0 0).setReg16 .siDh 0x0234) fun t =>
    t.regs.ax == 0x1239 && t.ip == 0x0103) = true := by decide

/-- Vector DT45. -/
theorem test_lds : (runs [0xC5, 0x1E, 0x00, 0x02]
    (poke [(0x200, 0x34), (0x201, 0x12), (0x202, 0x00), (0x203, 0xB8)] start) fun t =>
    t.regs.bx == 0x1234 && t.segs.ds == 0xB800) = true := by decide

/-- Vector DT46. -/
theorem test_les : (runs [0xC4, 0x3E, 0x00, 0x02]
    (poke [(0x200, 0x34), (0x201, 0x12), (0x202, 0x00), (0x203, 0xB8)] start) fun t =>
    t.regs.di == 0x1234 && t.segs.es == 0xB800) = true := by decide

/-- Vector DT48. -/
theorem test_sahf : (runs [0x9E] (withData 0xFF00 0 0 0) fun t =>
    flagRow t == [false, true, true, true, true, true]) = true := by decide

/-- Vector DT52. -/
theorem test_popf_clears_if : (runs [0x9D]
    (poke [(0xFE, 0x00), (0xFF, 0x00)] ((start.setReg16 .spAh 0x00FE).setFlags { start.flags with cf := true, iF := true }))
    fun t =>
    !t.flags.iF && !t.flags.cf && t.regs.sp == 0x0100) = true := by decide

/-- Vector AR1. -/
theorem test_add_signed_overflow : (runs [0x00, 0xD8] (withData 0x7F 1 0 0) fun t =>
    t.regs.ax == 0x0080 && flagRow t == [true, true, false, true, false, false]) = true := by decide

/-- Vector AR5. -/
theorem test_add_parity_of_low_byte : (runs [0x01, 0xD8] (withData 0x00FF 1 0 0) fun t =>
    t.regs.ax == 0x0100 && flagRow t == [false, false, false, true, true, false]) = true := by decide

/-- Vector AR13. -/
theorem test_adc_carry_through : (runs [0x11, 0xD8]
    ((withData 0xFFFF 0 0 0).setFlags { start.flags with cf := true }) fun t =>
    t.regs.ax == 0 && flagRow t == [false, false, true, true, true, true]) = true := by decide

/-- Vector AR14. -/
theorem test_sub_borrow : (runs [0x28, 0xD8] (withData 0 1 0 0) fun t =>
    t.regs.ax == 0x00FF && flagRow t == [false, true, false, true, true, true]) = true := by decide

/-- Vector AR19. -/
theorem test_sbb_borrow : (runs [0x18, 0xD8]
    ((withData 0x10 0x0F 0 0).setFlags { start.flags with cf := true }) fun t =>
    t.regs.ax == 0 && flagRow t == [false, false, true, true, true, false]) = true := by decide

/-- Vector AR22. -/
theorem test_cmp_writes_no_operand : (runs [0x3D, 0x00, 0x80] (withData 0x7FFF 0 0 0) fun t =>
    t.regs.ax == 0x7FFF && flagRow t == [true, true, false, false, true, true]) = true := by decide

/-- Vector AR25. -/
theorem test_inc_keeps_carry : (runs [0x40] ((withData 0x7FFF 0 0 0).setFlags { start.flags with cf := true }) fun t =>
    t.regs.ax == 0x8000 && flagRow t == [true, true, false, true, true, true]) = true := by decide

/-- Vector AR26. -/
theorem test_inc_al_leaves_ah : (runs [0xFE, 0xC0] (withData 0x12FF 0 0 0) fun t =>
    t.regs.ax == 0x1200 && flagRow t == [false, false, true, true, true, false]) = true := by decide

/-- Vector AR31. -/
theorem test_dec_al : (runs [0xFE, 0xC8] (withData 0x0080 0 0 0) fun t =>
    t.regs.ax == 0x007F && flagRow t == [true, false, false, true, false, false]) = true := by decide

/-- Vector AR32. -/
theorem test_neg_zero : (runs [0xF6, 0xD8] ((withData 0 0 0 0).setFlags { start.flags with cf := true }) fun t =>
    t.regs.ax == 0 && flagRow t == [false, false, true, false, true, false]) = true := by decide

/-- Vector AR33. -/
theorem test_neg_most_negative : (runs [0xF6, 0xD8] (withData 0x80 0 0 0) fun t =>
    t.regs.ax == 0x80 && flagRow t == [true, true, false, false, false, true]) = true := by decide

/-- Vector AR35. -/
theorem test_aaa : (runs [0x37] (withData 0x010B 0 0 0) fun t =>
    t.regs.ax == 0x0201 && t.flags.af && t.flags.cf) = true := by decide

/-- Vector AR38. -/
theorem test_aas : (runs [0x3F] ((withData 0x02FF 0 0 0).setFlags { start.flags with af := true }) fun t =>
    t.regs.ax == 0x0109 && t.flags.af && t.flags.cf) = true := by decide

/-- Vector AR40. -/
theorem test_daa : (runs [0x27] (withData 0x00AE 0 0 0) fun t =>
    t.regs.ax == 0x0014 && (flagRow t).tail == [false, false, true, true, true]) = true := by decide

/-- Vector AR44. -/
theorem test_das : (runs [0x2F] ((withData 0x00EE 0 0 0).setFlags { start.flags with af := true, cf := true }) fun t =>
    t.regs.ax == 0x0088 && (flagRow t).tail == [true, false, true, true, true]) = true := by decide

/-- Vector AR47. -/
theorem test_mul_byte_ignores_ah : (runs [0xF6, 0xE3] (withData 0xFF0F 0x10 0 0) fun t =>
    t.regs.ax == 0x00F0 && !t.flags.cf && !t.flags.oF) = true := by decide

/-- Vector AR48. -/
theorem test_mul_word : (runs [0xF7, 0xE3] (withData 0xFFFF 0xFFFF 0 0x1234) fun t =>
    t.regs.ax == 1 && t.regs.dx == 0xFFFE && t.flags.cf && t.flags.oF) = true := by decide

/-- Vector AR52. -/
theorem test_imul_byte : (runs [0xF6, 0xEB] (withData 0x40 2 0 0) fun t =>
    t.regs.ax == 0x0080 && t.flags.cf && t.flags.oF) = true := by decide

/-- Vector AR54. -/
theorem test_imul_word : (runs [0xF7, 0xEB] (withData 0x8000 2 0 0) fun t =>
    t.regs.ax == 0 && t.regs.dx == 0xFFFF && t.flags.cf) = true := by decide

/-- Vector AR60. -/
theorem test_div_byte : (runs [0xF6, 0xF3] (withData 0x0064 7 0 0) fun t =>
    t.regs.ax == 0x020E) = true := by decide

/-- Vector AR62. -/
theorem test_div_word : (runs [0xF7, 0xF3] (withData 0 2 0 1) fun t =>
    t.regs.ax == 0x8000 && t.regs.dx == 0) = true := by decide

/-- Vector AR68. -/
theorem test_idiv_byte : (runs [0xF6, 0xFB] (withData 0xFFF7 4 0 0) fun t =>
    t.regs.ax == 0xFFFE) = true := by decide

/-- Vector AR71. -/
theorem test_idiv_word : (runs [0xF7, 0xFB] (withData 0xFF9C 7 0 0xFFFF) fun t =>
    t.regs.ax == 0xFFF2 && t.regs.dx == 0xFFFE) = true := by decide

/-- Vector AR55. -/
theorem test_aam : (runs [0xD4, 0x0A] (withData 0xFF3F 0 0 0) fun t =>
    t.regs.ax == 0x0603 && t.flags.pf && !t.flags.zf) = true := by decide

/-- Vector AR59. -/
theorem test_aad : (runs [0xD5, 0x0A] (withData 0x1964 0 0 0) fun t =>
    t.regs.ax == 0x005E && !t.flags.pf) = true := by decide

/-- Vector AR64. -/
theorem test_cbw : (runs [0x98] (withData 0x0080 0 0 0) fun t =>
    t.regs.ax == 0xFF80) = true := by decide

/-- Vector AR66. -/
theorem test_cwd : (runs [0x99] (withData 0x8000 0 0 0x1234) fun t =>
    t.regs.dx == 0xFFFF) = true := by decide

/-- Vector LG1. -/
theorem test_not : (runs [0xF6, 0xD0]
    ((withData 0x55 0 0 0).setFlags { start.flags with cf := true, zf := true }) fun t =>
    t.regs.ax == 0x00AA && flagRow t == [false, false, true, false, false, true]) = true := by decide

/-- Vector LG5. -/
theorem test_and_immediate : (runs [0x81, 0xE3, 0x00, 0xFF] (withData 0 0x1234 0 0) fun t =>
    t.regs.bx == 0x1200 && !t.flags.zf && t.flags.pf) = true := by decide

/-- Vector LG13. -/
theorem test_or_memory : (runs [0x80, 0x0E, 0x00, 0x02, 0x80] (poke [(0x200, 0x01)] start) fun t =>
    bytesAt t [0x200] == [0x81] && t.flags.sf) = true := by decide

/-- Vector LG14. -/
theorem test_xor_self : (runs [0x31, 0xC0] ((withData 0xBEEF 0 0 0).setFlags { start.flags with cf := true }) fun t =>
    t.regs.ax == 0 && t.flags.zf && !t.flags.cf) = true := by decide

/-- Vector LG10. -/
theorem test_test_writes_nothing : (runs [0xF6, 0x06, 0x00, 0x02, 0x01] (poke [(0x200, 0xFE)] start) fun t =>
    bytesAt t [0x200] == [0xFE] && t.flags.zf && !t.flags.cf) = true := by decide

/-- Vector LG21. -/
theorem test_shl_by_seven : (runs [0xD2, 0xE0] (withData 1 0 7 0) fun t =>
    t.regs.ax == 0x0080 && t.flags.sf && !t.flags.cf) = true := by decide

/-- Vector LG26. -/
theorem test_shl_count_is_not_masked : (runs [0xD3, 0xE0] (withData 0xFFFF 0 0x21 0) fun t =>
    t.regs.ax == 0 && t.flags.zf) = true := by decide

/-- Vector LG28. -/
theorem test_shr_one : (runs [0xD1, 0xE8] (withData 0x8001 0 0 0) fun t =>
    t.regs.ax == 0x4000 && t.flags.oF && t.flags.cf) = true := by decide

/-- Vector LG33. -/
theorem test_sar_two : (runs [0xD2, 0xF8] (withData 0xF7 0 2 0) fun t =>
    t.regs.ax == 0x00FD && t.flags.cf && t.flags.sf) = true := by decide

/-- Vector LG39. -/
theorem test_rol_one : (runs [0xD0, 0xC0] ((withData 0x81 0 0 0).setFlags { start.flags with zf := true }) fun t =>
    t.regs.ax == 3 && t.flags.oF && t.flags.zf && t.flags.cf) = true := by decide

/-- Vector LG47. -/
theorem test_ror_four : (runs [0xD2, 0xC8] (withData 0x96 0 4 0) fun t =>
    t.regs.ax == 0x69 && !t.flags.cf) = true := by decide

/-- Vector LG50. -/
theorem test_rcl_period_is_nine : (runs [0xD2, 0xD0]
    ((withData 0xA5 0 9 0).setFlags { start.flags with cf := true }) fun t =>
    t.regs.ax == 0xA5 && t.flags.cf) = true := by decide

/-- Vector LG55. -/
theorem test_rcr_three : (runs [0xD2, 0xD8] ((withData 0xA5 0 3 0).setFlags { start.flags with cf := true }) fun t =>
    t.regs.ax == 0x74 && t.flags.cf) = true := by decide

/-- Vector ST2. -/
theorem test_movsw_down : (runs [0xA5]
    ((poke [(0x10010, 0x34), (0x10011, 0x12)] (((start.setReg16 .siDh 0x10).setReg16 .diBh 0x20).setSegs { start.segs
      with ds := 0x1000, es := 0x2000 })).setFlags { start.flags with df := true }) fun t =>
    t.regs.si == 0x0E && t.regs.di == 0x1E && bytesAt t [0x20020, 0x20021] == [0x34, 0x12]) = true := by decide

/-- Vector ST8. -/
theorem test_cmpsb : (runs [0xA6]
    (poke [(0x100, 0x41), (0x200, 0x42)] ((start.setReg16 .siDh 0x100).setReg16 .diBh 0x200)) fun t =>
    t.regs.si == 0x101 && t.regs.di == 0x201 && flagRow t == [false, true, false, true, true, true]) = true := by
      decide

/-- Vector ST13. -/
theorem test_scasb : (runs [0xAE] (poke [(0x200, 0x41)] ((withData 0x42 0 0 0).setReg16 .diBh 0x200)) fun t =>
    t.regs.di == 0x201 && t.regs.si == 0 && flagRow t == [false, false, false, false, false, false]) = true := by
      decide

/-- Vector ST17. -/
theorem test_lodsb : (runs [0xAC] (poke [(0x100, 0x99)] ((withData 0x5500 0 0 0).setReg16 .siDh 0x100)) fun t =>
    t.regs.ax == 0x5599 && t.regs.si == 0x101) = true := by decide

/-- Vector ST22. -/
theorem test_stosw_wraps : (runs [0xAB] (((withData 0x1234 0 0 0).setReg16 .diBh 0xFFFF).setSeg .es 0x3000) fun t =>
    t.regs.di == 1 && bytesAt t [0x3FFFF, 0x30000] == [0x34, 0x12]) = true := by decide

/-- Vector CT2. -/
theorem test_call_near : (runs [0xE8, 0xFD, 0xFF] (start.setReg16 .spAh 0x100) fun t =>
    t.ip == 0x0100 && t.regs.sp == 0xFE && bytesAt t [0xFE, 0xFF] == [0x03, 0x01]) = true := by decide

/-- Vector CT6. -/
theorem test_call_far_indirect : (runs [0xFF, 0x1E, 0x00, 0x03]
    (poke [(0x300, 0x78), (0x301, 0x56), (0x302, 0x00), (0x303, 0x30)] (start.setReg16 .spAh 0x100)) fun t =>
    t.segs.cs == 0x3000 && t.ip == 0x5678 && bytesAt t [0xFC, 0xFD, 0xFE, 0xFF] == [0x04, 0x01, 0x00, 0x08]) = true
      := by decide

/-- Vector CT9. -/
theorem test_jmp_near_wraps : (runs [0xE9, 0x00, 0xFF] (start.setIp 0xFFF0) fun t =>
    t.ip == 0xFEF3) = true := by decide

/-- Vector CT12. -/
theorem test_jmp_short_back : (runs [0xEB, 0x80] (start) fun t =>
    t.ip == 0x0082) = true := by decide

/-- Vector CT15. -/
theorem test_jmp_far : (runs [0xEA, 0x00, 0x01, 0x00, 0xF0] (start) fun t =>
    t.segs.cs == 0xF000 && t.ip == 0x0100) = true := by decide

/-- Vector CT18. -/
theorem test_ret_immediate : (runs [0xC2, 0x04, 0x00]
    (poke [(0xFE, 0x03), (0xFF, 0x01)] (start.setReg16 .spAh 0xFE)) fun t =>
    t.ip == 0x0103 && t.regs.sp == 0x0104) = true := by decide

/-- Vector CT19. -/
theorem test_ret_far : (runs [0xCB]
    (poke [(0xFC, 0x05), (0xFD, 0x01), (0xFE, 0x00), (0xFF, 0x10)] (start.setReg16 .spAh 0xFC)) fun t =>
    t.ip == 0x0105 && t.segs.cs == 0x1000 && t.regs.sp == 0x0100) = true := by decide

/-- Vector CT36. -/
theorem test_jl_taken : (runs [0x7C, 0x10] (start.setFlags { start.flags with oF := true }) fun t =>
    t.ip == 0x0112) = true := by decide

/-- Vector CT28. -/
theorem test_ja_not_taken : (runs [0x77, 0x10] (start.setFlags { start.flags with zf := true }) fun t =>
    t.ip == 0x0102) = true := by decide

/-- Vector CT45. -/
theorem test_loop_wraps : (runs [0xE2, 0xFE] (start) fun t =>
    t.regs.cx == 0xFFFF && t.ip == 0x0100) = true := by decide

/-- Vector CT47. -/
theorem test_loope_stops_on_zf : (runs [0xE1, 0xFE] (withData 0 0 5 0) fun t =>
    t.regs.cx == 4 && t.ip == 0x0102) = true := by decide

/-- Vector CT49. -/
theorem test_loopne : (runs [0xE0, 0xFE] (withData 0 0 5 0) fun t =>
    t.regs.cx == 4 && t.ip == 0x0100) = true := by decide

/-- Vector CT51. -/
theorem test_jcxz : (runs [0xE3, 0x10] (start) fun t =>
    t.regs.cx == 0 && t.ip == 0x0112) = true := by decide

/-- Vector IN1. -/
theorem test_int : (runs [0xCD, 0x21]
    (((start.setReg16 .spAh 0x100).setSegs { start.segs with cs := 0x1000, ss := 0x3000 }).setFlags
    { start.flags with iF := true, cf := true }) fun t =>
    t.regs.sp == 0xFA && !t.flags.iF && t.flags.cf && t.segs.ss == 0x3000) = true := by decide

/-- Vector IN4. -/
theorem test_into_without_overflow : (runs [0xCE] (start) fun t =>
    t.ip == 0x0101 && t.regs.sp == 0x0200) = true := by decide

/-- Vector IN5. -/
theorem test_iret : (runs [0xCF]
    (poke [(0x300FA, 0x02), (0x300FB, 0x01), (0x300FC, 0x00), (0x300FD, 0x10), (0x300FE, 0x43), (0x300FF, 0xF2)]
      ((start.setReg16 .spAh 0xFA).setSeg .ss 0x3000)) fun t =>
    t.segs.cs == 0x1000 && t.ip == 0x0102 && t.regs.sp == 0x0100 && t.flags.iF && t.flags.zf && t.flags.cf &&
      !t.flags.tf) = true := by decide

/-- Vector IN6. -/
theorem test_divide_by_zero : (runs [0xF6, 0xF3] (((withData 0x1234 0 0 0).setReg16 .spAh 0x100).setSegs
    { start.segs with cs := 0x1000, ss := 0x3000 }) fun t =>
    t.regs.ax == 0x1234 && t.regs.sp == 0xFA && !t.flags.iF && !t.flags.tf) = true := by decide

/-- Vector PC3. -/
theorem test_cmc : (runs [0xF5] (start.setFlags { start.flags with cf := true }) fun t =>
    !t.flags.cf && t.ip == 0x0101) = true := by decide

/-- Vector PC6. -/
theorem test_std : (runs [0xFD] (start) fun t =>
    t.flags.df) = true := by decide

/-- Vector PC7. -/
theorem test_cli : (runs [0xFA] (start.setFlags { start.flags with iF := true }) fun t =>
    !t.flags.iF) = true := by decide

/-- Vector PC9. -/
theorem test_hlt : (runs [0xF4] (start) fun t =>
    t.ip == 0x0101 && t.latches.halted) = true := by decide

/-- Vector PC10. -/
theorem test_wait_with_test_low : (runs [0x9B] (start) fun t =>
    t.ip == 0x0101 && !t.progress.mid) = true := by decide

/-- Vector PC11. -/
theorem test_esc_reads_a_word : (runs [0xD8, 0x06, 0x00, 0x10] (poke [(0x1000, 0x11), (0x1001, 0x22)] start) fun t =>
    t.ip == 0x0104 && t.env.busLog == [.escape 0 0x1000 0x1001 0x2211]) = true := by decide

/-- Vector PC16, its first byte. -/
theorem test_segment_prefix_is_kept : (runs [0x26] (start) fun t =>
    t.pre.segOvr == some .es && t.progress.mid && t.ip == 0x0101) = true := by decide

/-- Vector ST4, its first byte. -/
theorem test_rep_prefix_is_kept : (runs [0xF3] (start) fun t =>
    t.pre.rep == some .repz && t.progress.mid) = true := by decide

/-- Vector IN14. -/
theorem test_single_step : (runs [0x40]
    (((start.setReg16 .spAh 0x100).setSegs { start.segs with cs := 0x1000, ss := 0x3000 }).setFlags
    { start.flags with tf := true }) fun t =>
    t.regs.ax == 1 && t.regs.sp == 0xFA && !t.flags.tf) = true := by decide

/-! ## The bus: what answers, other masters, and RESET (20_memory.md rules R60, R61 and R71, 70_reset_and_hazards.md rules
R390 and R409) -/

/-- ROM at 300h and 301h, a device at 310h, nothing at 320h, RAM elsewhere. -/
def platform (devIn : List Byte) : State :=
  (withData 0xBEEF 0 0 0).setEnv { start.env with
    map := [⟨0x300, 2, .rom⟩, ⟨0x310, 1, .device⟩, ⟨0x320, 1, .absent⟩], devIn := devIn }

/-- One step on the bytes at CS:IP, with these events, on this platform. -/
def runsWith (bs : List Byte) (env : Env) (s : State) (p : State → Bool) : Bool :=
  match step ((s.placeInstr bs).setEnv env) with
  | .next t => p t
  | .fault _ => false
  | .refused _ => false

/-- A write to ROM is ignored (R61). -/
theorem test_store_to_rom_is_ignored : (runsWith [0xA3, 0x00, 0x03] (platform []).env (poke [(0x300, 0x11), (0x301, 0x22)]
    (platform [])) fun t => bytesAt t [0x300, 0x301] == [0x11, 0x22]) = true := by decide

/-- The device's answer is taken, and shown (R61). -/
theorem test_device_answers_a_read : (runsWith [0xA0, 0x10, 0x03] (platform [0x5A, 0x77]).env (platform []) fun t =>
    t.regs.ax == 0xBE5A && t.env.devIn == [0x77] && t.env.busLog == [.memRead 0x310 0x5A]) = true := by decide

/-- INC of the byte at 200h, which is 5, where another master writes 40h after the read: with LOCK in maximum mode it
waits, in minimum mode and without LOCK its write is lost. -/
def incAgainstMaster (lock maxMode : Bool) : Option Byte :=
  match step ((((poke [(0x200, 5)] start).placeInstr [0xFE, 0x06, 0x00, 0x02]).setPre { Prefixes.none with lock := lock
      }).setEnv { start.env with maxMode := maxMode, inputs := [[.within [], .within [⟨0x200, 0x40⟩]]] }) with
  | .next t => some (t.byteAt 0x200)
  | .fault _ => none
  | .refused _ => none

theorem test_unlocked_inc_loses_the_other_masters_write : incAgainstMaster false true = some 6 := by decide
theorem test_lock_holds_off_in_maximum_mode : incAgainstMaster true true = some 0x40 := by decide
theorem test_lock_is_no_operation_in_minimum_mode : incAgainstMaster true false = some 6 := by decide

/-- RESET after the first byte of a word store: the low byte is in memory, the high byte is not, and the CPU is reset
(R390). -/
theorem test_reset_cuts_a_word_store : (runsWith [0xA3, 0x00, 0x02] { start.env with inputs := [[.resetWithin 1]] }
    (poke [(0x200, 0x11), (0x201, 0x22)] (withData 0xBEEF 0 0 0)) fun t =>
    bytesAt t [0x200, 0x201] == [0xEF, 0x22] && t.segs.cs == 0xFFFF && t.progress.freshReset) = true := by decide

/-- A write of another master after a RESET is not held off by the LOCK the RESET ended. -/
theorem test_reset_ends_a_lock :
    (let s := ((start.setPre { Prefixes.none with lock := true }).setEnv { start.env with
        maxMode := true, inputs := [[.busWrite ⟨0, 1⟩, .reset, .busWrite ⟨2, 3⟩]] }).takeInputs
     bytesAt s [0, 2] == [1, 3] && s.env.waiting == []) = true := by decide

/-! ## Witnesses: for each statement with hypotheses, states and operands that meet them -/

/-- The start state with bytes at the first, an inner and the last address of memory. -/
def sample : State := poke [(0, 0x12), (0x8100, 0x40), (0xFFFFF, 0x7F)] start

/-- A step from this state answers a next state. -/
def goes (s : State) : Bool :=
  match step s with
  | .next _ => true
  | .fault _ => false
  | .refused _ => false

/-- These two bytes, with four zero bytes after them, are no instruction. -/
def rejected (b1 b2 : Byte) : Bool :=
  match decode [b1, b2, 0, 0, 0, 0] with
  | .ok _ => false
  | .error _ => true

theorem witness_DecodeOfEncode : (Instr.movRmImm (.word 0x1234) (.mem (.based .bp (.d8 0)))).wf = true := by decide

theorem witness_EncodeOfDecode : decode [0xC6, 0x44, 0x01, 0xFF, 0x90]
    = .ok (.movRmImm (.byte 0xFF) (.mem (.based .si (.d8 0x01))), 4) := by decide

/-- The first and the last value of every clause, each beside a neighbour outside it. -/
theorem witness_UndefinedEncodingsExactly_first_byte :
    ([(0x0F, 0), (0x60, 0), (0x6F, 0), (0xC0, 0), (0xC1, 0), (0xC8, 0), (0xC9, 0), (0xD6, 0), (0xF1, 0)].all
        fun b => rejected b.1 b.2) = true
      ∧ ([(0x0E, 0), (0x10, 0), (0x5F, 0), (0x70, 0), (0xBF, 0), (0xC2, 0), (0xC7, 0), (0xCA, 0), (0xD5, 0x0A),
          (0xD7, 0), (0xF0, 0), (0xF2, 0)].all fun b => !rejected b.1 b.2) = true := by decide

theorem witness_UndefinedEncodingsExactly_reg_field :
    ([(0x82, 0xC8), (0x83, 0xF7), (0x8C, 0xE0), (0x8E, 0xFF), (0x8E, 0xC8), (0x8F, 0xC8), (0xC7, 0x38), (0xD0, 0x30),
        (0xD3, 0xF7), (0xF6, 0x08), (0xF7, 0xCF), (0xFE, 0x10), (0xFE, 0xFF), (0xFF, 0x38)].all
        fun b => rejected b.1 b.2) = true
      ∧ ([(0x82, 0xC0), (0x83, 0xFF), (0x81, 0xC8), (0x8C, 0xDF), (0x8E, 0xC7), (0x8E, 0xD0), (0x8F, 0xC7), (0xC7, 0x00),
          (0xD0, 0x28), (0xD3, 0xF8), (0xF6, 0x00), (0xF7, 0xD0), (0xFE, 0x0F), (0xFF, 0x37)].all
          fun b => !rejected b.1 b.2) = true := by decide

theorem witness_UndefinedEncodingsExactly_mod_field :
    ([(0x8D, 0xC0), (0xC4, 0xFF), (0xC5, 0xC0), (0xFF, 0xD8), (0xFF, 0xEF), (0xD4, 0x09), (0xD5, 0x0B)].all
        fun b => rejected b.1 b.2) = true
      ∧ ([(0x8D, 0xBF), (0xC4, 0x00), (0xC5, 0xBF), (0xFF, 0x9F), (0xFF, 0x28), (0xD4, 0x0A), (0xD5, 0x0A)].all
          fun b => !rejected b.1 b.2) = true := by decide

/-- The machine's part of `Fetches`: no event comes, the CPU is not halted, no NMI came before the first fetch after a
reset, and no turn is left to run. -/
abbrev Ready (s : State) : Prop :=
  s.env.inputs = [] ∧ (s.progress.freshReset = true → s.latches.nmiPending = false) ∧ s.latches.halted = false
    ∧ s.progress.repeating = none

/-- `Fetches` and `Plain` as propositions that can be decided. -/
abbrev ReadyFor (s : State) (i : Instr) (n : Nat) : Prop :=
  s.env.inputs = [] ∧ (s.progress.freshReset = true → s.latches.nmiPending = false) ∧ s.latches.halted = false
    ∧ s.progress.repeating = none ∧ decode s.fetchWindow = .ok (i, n) ∧ isPrefixByte i = false
    ∧ (s.pre.rep = none ∨ isStringPrimitive i = true)
abbrev Alone (s : State) : Prop :=
  (∀ r ∈ s.env.map, r.kind = .ram ∨ r.kind = .rom) ∧ s.env.waiting = [] ∧ s.env.cut = none

theorem fetches_iff (s : State) (i : Instr) (n : Nat) : Fetches s i n ↔ ReadyFor s i n := Iff.rfl
theorem plain_iff (s : State) : Plain s ↔ Alone s := Iff.rfl

/-- The sample state with a ROM in the top 64 KiB: the CPU alone with its memory, and RAM wherever the stack is. -/
def romSample : State := sample.setEnv { sample.env with map := [⟨0xF0000, 0x10000, .rom⟩] }

theorem plain_sample : Plain sample ∧ Plain romSample := ⟨by unfold Plain; decide, by unfold Plain; decide⟩

/-- A state right after reset, and one with no reset behind it. -/
def freshStart : State :=
  (start.placeInstr [0x40]).setProgress { (start.placeInstr [0x40]).progress with freshReset := true }

theorem witness_StepRunsDecoded_instruction :
    ([start.placeInstr [0x40], freshStart].all fun s =>
      decide (s.takeInputs = s) && decide (Ready s) && decide (decode s.fetchWindow = .ok (.incR16 .axAl, 1))
        && decide (s.stale = []) && !s.progress.mid && !isPrefixByte (.incR16 .axAl) && decide (s.pre.rep = none)
        && decide (s.env.waiting = []) && decide (s.env.cut = none) && decide (s.kindAt 0x8100 = .ram)) = true := by decide

/-- The first fetch after reset, and its step answers. -/
theorem witness_StepRunsDecoded_first_fetch :
    freshStart.progress.freshReset = true ∧ freshStart.latches.nmiPending = false ∧ goes freshStart = true := by decide

theorem witness_StepRunsDecoded_prefix :
    Ready (start.placeInstr [0xF3]) ∧ decode (start.placeInstr [0xF3]).fetchWindow = .ok (.rep, 1)
      ∧ isPrefixByte .rep = true := by decide

/-- REP and then a string primitive: the state between the two. -/
def inRep (bs : List Byte) : State :=
  ((start.placeInstr bs).setPre { Prefixes.none with rep := some .repz }).setProgress
    { Progress.idle with mid := true, instrIp := 0x00FF }

theorem witness_StepRunsDecoded_string :
    Ready (inRep [0xA4]) ∧ decode (inRep [0xA4]).fetchWindow = .ok (.movs .byte, 1)
      ∧ isPrefixByte (.movs .byte) = false ∧ isStringPrimitive (.movs .byte) = true := by decide

theorem witness_StepStopsExactlyWhereUndefined :
    Ready (start.placeInstr [0x0F]).takeInputs
      ∧ decode (start.placeInstr [0x0F]).takeInputs.fetchWindow = .error .popCs
      ∧ Ready (inRep [0x90]).takeInputs ∧ decode (inRep [0x90]).takeInputs.fetchWindow = .ok (.nop, 1)
      ∧ isPrefixByte .nop = false ∧ isStringPrimitive .nop = false ∧ (inRep [0x90]).takeInputs.pre.rep ≠ none := by decide

/-- A step that stops, for each of the two reasons, from a state that is not halted and has no turn left. -/
def stopsAs (s : State) (why : Refusal) : Bool :=
  match step s with
  | .next _ => false
  | .fault _ => false
  | .refused r => r == why

theorem witness_StepStopsExactlyWhereUndefined_stops :
    stopsAs (start.placeInstr [0x0F]) (.undefinedEncoding .popCs) = true
      ∧ stopsAs (inRep [0x90]) .repeatBeforeNonString = true := by decide

/-- An unlocked bus and RAM at the address written, a step with events, and one with none. -/
theorem witness_HostEventsTakeEffect :
    start.busLocked = false ∧ start.kindAt (0x200 : BitVec 20).toNat = .ram
      ∧ (platform []).kindAt (0x300 : BitVec 20).toNat = .rom
      ∧ (start.setEnv { start.env with inputs := [[.nmiEdge, .intrLevel true], []] }).env.inputs
        = [.nmiEdge, .intrLevel true] :: [[]]
      ∧ start.env.inputs = [] := by decide

/-- The bus locked, and no write of another master waiting. -/
theorem witness_HostEventsTakeEffect_locked :
    (let s := (start.setPre { Prefixes.none with lock := true }).setEnv { start.env with maxMode := true }
     s.busLocked && s.env.waiting == []) = true := by decide

/-- The invariant holds between a REP prefix and its MOVSB, where CX is 0, and the step from there goes on. -/
theorem witness_StepKeepsInv : StepInv (inRep [0xA4]) ∧ goes (inRep [0xA4]) = true := by
  refine ⟨⟨by decide, by decide, by decide, by decide, by decide, by decide, ?_, by decide, by decide, by decide,
    by decide⟩, by decide⟩
  intro p h
  exact nomatch show (none : Option InProgress) = some p from h

/-- Each kind of memory at the address of MOV AL,[addr], with an answer scripted and with none. -/
theorem witness_MemoryKinds :
    ([platform [0x5A], platform []].all fun s => decide (s.env.waiting = []) && decide (s.env.cut = none)
      && ([(0x2FF, MemKind.ram), (0x300, .rom), (0x301, .rom), (0x302, .ram), (0x310, .device), (0x320, .absent)].all
        fun c => decide (s.kindAt (phys (s.memSeg (.direct c.1)) c.1) = c.2))) = true
      ∧ (platform [0x5A]).env.devIn = 0x5A :: [] := by decide

/-- A word whose high byte wraps to the start of its segment, in RAM. -/
theorem witness_WordAccessLittleEndian : Plain sample ∧ Memory.wf sample.mem
    ∧ sample.AllRam [(0x1000 * 16 + 0xFFFF) % 2 ^ 20, (0x1000 * 16 + (0xFFFF + 1) % 2 ^ 16) % 2 ^ 20] :=
  ⟨plain_sample.1, by decide, fun _ _ => rfl⟩

theorem witness_EffectiveAddressTable :
    (0xFF80 : Word) = (match (Disp.d8 0x80) with | .none => 0 | .d8 v => v.signExtend 16 | .d16 v => v)
      ∧ start.pre.segOvr = none ∧ (start.setPre { Prefixes.none with segOvr := some .es }).pre.segOvr = some .es := by
  decide

theorem witness_MovMovesSource : Plain romSample ∧ romSample.AllRam (romSample.rmBytes .word (.mem (.direct 0xFFFF))) :=
  ⟨plain_sample.2, by unfold State.AllRam; decide⟩
theorem witness_SegmentLoads : Plain romSample := plain_sample.2
theorem witness_PushStoresWord : Plain romSample ∧ Reg.diBh ≠ .spAh
    ∧ romSample.AllRam (accessBytes romSample.segs.ss (romSample.regs.sp - 2) .word) :=
  ⟨plain_sample.2, by decide, by unfold State.AllRam; decide⟩
theorem witness_PopLoadsWord : Plain romSample ∧ Reg.axAl ≠ .spAh ∧ Instr.popR16 .spAh = .popR16 .spAh :=
  ⟨plain_sample.2, by decide, rfl⟩
theorem witness_FlagTransfers : Plain romSample := plain_sample.2
theorem witness_XchgExchanges : Plain romSample ∧ Instr.xchgAxDxBx .bxBl = .xchgAxDxBx .bxBl := ⟨plain_sample.2, rfl⟩

/-- No byte scripted, one, and two. -/
theorem witness_PortTransfers :
    ([[], [0xA5], [0xA5, 0x5A]].all fun bs : List Byte =>
      let s := start.setEnv { start.env with portIn := bs }
      decide (s.env.cut = none) && decide (s.env.portIn = bs)
        && (match exec (.inDx .word) s with
          | .next t => decide (t.env.portIn = [])
          | .fault _ => false
          | .refused _ => false)) = true := by decide

theorem witness_AddressAndPointerLoads : Plain romSample := plain_sample.2
theorem witness_AddAndAdcResult : Plain romSample := plain_sample.2
theorem witness_SubSbbAndCmpResult : Plain romSample := plain_sample.2
theorem witness_IncDecAndNegResult : Plain romSample := plain_sample.2
theorem witness_MultiplyResult : Plain romSample := plain_sample.2
theorem witness_LogicResult : Plain romSample := plain_sample.2

/-- n = q * d + r with |r| < |d|, and r is 0 or has the sign of n. -/
abbrev Exact (n d q r : Int) : Prop := n = q * d + r ∧ r.natAbs < d.natAbs ∧ (r ≠ 0 → (r < 0 ↔ n < 0))

/-- DIV: the largest quotient of each width. -/
theorem witness_DivAndIdivResult_unsigned :
    (0xFF : Nat) = ((withData 0xFEFF 0xFF 0 0).readRm .byte (.reg .bxBl)).toNat
      ∧ (withData 0xFEFF 0xFF 0 0).regs.ax.toNat = 255 * 0xFF + 254
      ∧ (0xFFFF : Nat) = ((withData 0xFFFF 0xFFFF 0 0xFFFE).readRm .word (.reg .bxBl)).toNat
      ∧ (withData 0xFFFF 0xFFFF 0 0xFFFE).regs.dx.toNat * 2 ^ 16 + (withData 0xFFFF 0xFFFF 0 0xFFFE).regs.ax.toNat
        = 65535 * 0xFFFF + 65534 ∧ Alone (withData 0xFFFF 0xFFFF 0 0xFFFE) := by decide

/-- IDIV: the quotients 127 and -127, 32767 and -32767, and a remainder on either side of 0. -/
theorem witness_DivAndIdivResult_signed :
    Exact (withData 127 1 0 0).regs.ax.toInt ((withData 127 1 0 0).readRm .byte (.reg .bxBl)).toInt 127 0
      ∧ Exact (withData 0xFE04 4 0 0).regs.ax.toInt ((withData 0xFE04 4 0 0).readRm .byte (.reg .bxBl)).toInt (-127) 0
      ∧ Exact (withData 0xFFF7 4 0 0).regs.ax.toInt ((withData 0xFFF7 4 0 0).readRm .byte (.reg .bxBl)).toInt (-2) (-1)
      ∧ Exact (0 * 2 ^ 16 + 0x7FFF) 1 32767 0 ∧ Exact ((0xFFFF : Word).toInt * 2 ^ 16 + 0x8001) 1 (-32767) 0 := by decide

/-- Each clause at the first value it takes in. That of the most negative quotient turns on the parameter
IDIV_ACCEPTS_MIN, which has no value here. -/
theorem witness_DivideErrorEnters :
    Alone (withData 0x0100 1 0 0) ∧ (withData 5 0 0 0).readRm .byte (.reg .bxBl) = 0#8
      ∧ 2 ^ 8 * ((withData 0x0100 1 0 0).readRm .byte (.reg .bxBl)).toNat ≤ (withData 0x0100 1 0 0).regs.ax.toNat
      ∧ 2 ^ 16 * ((withData 0 1 0 1).readRm .word (.reg .bxBl)).toNat
        ≤ (withData 0 1 0 1).regs.dx.toNat * 2 ^ 16 + (withData 0 1 0 1).regs.ax.toNat
      ∧ 2 ^ 7 ≤ Int.tdiv (withData 0x80 1 0 0).regs.ax.toInt ((withData 0x80 1 0 0).readRm .byte (.reg .bxBl)).toInt
      ∧ Int.tdiv (withData 0xFF7F 1 0 0).regs.ax.toInt ((withData 0xFF7F 1 0 0).readRm .byte (.reg .bxBl)).toInt < -2 ^ 7
      ∧ (2 : Int) ^ 15 ≤ Int.tdiv (0 * 2 ^ 16 + 0x8000) 1
      ∧ Int.tdiv ((0xFFFF : Word).toInt * 2 ^ 16 + 0x7FFF) 1 < -2 ^ 15 := by decide

/-- A count of 1 by each form, and 0, 7, 8 and 255 in CL: none, below, at and far above the width of a byte. -/
theorem witness_ShiftResult :
    Alone romSample ∧ (1 : Nat) = (match Count.one with | .one => 1 | .cl => 0)
      ∧ ([0, 7, 8, 255].all fun n => decide ((withData 0 0 (BitVec.ofNat 16 n) 0).shiftCount .cl = n)
          && decide (Alone (withData 0 0 (BitVec.ofNat 16 n) 0))) = true := by decide

theorem witness_RotateResult : Alone romSample
    ∧ ([0, 1, 8, 9, 17, 255].all fun n => decide ((withData 0 0 (BitVec.ofNat 16 n) 0).shiftCount .cl = n)
        && decide (Alone (withData 0 0 (BitVec.ofNat 16 n) 0))) = true := by decide

theorem witness_StringElement : Plain romSample ∧ romSample.pre.rep = none
    ∧ romSample.AllRam (accessBytes romSample.segs.es romSample.regs.di .word) :=
  ⟨plain_sample.2, by decide, by unfold State.AllRam; decide⟩

/-- No count left, one left, and more; a primitive that looks at ZF and one that does not. -/
theorem witness_RepeatedTurn :
    (inRep [0xA4]).pre.rep = some .repz ∧ InProgress.movs .byte ≠ .wait ∧ (inRep [0xA4]).regs.cx = 0
      ∧ InProgress.scas .word ≠ .wait ∧ ((inRep [0xA4]).setReg16 .cxCl 1).regs.cx ≠ 0
      ∧ ((inRep [0xA4]).setReg16 .cxCl 1).pre.rep = some .repz := by decide

/-- REP STOSB with CX = n elements still to store. -/
def inStosb (n : Nat) : State :=
  ((inRep [0xAA]).setReg16 .cxCl (BitVec.ofNat 16 n)).setProgress
    { Progress.idle with mid := true, instrIp := 0x0100, repeating := some (.stos .byte) }

theorem witness_RepStosbFills :
    ([1, 2, 65535].all fun n =>
      let s := inStosb n
      decide (Alone s) && decide (s.env.inputs = []) && !s.latches.nmiPending && !s.env.intr && !s.latches.inhibit
        && !s.latches.halted && !s.progress.freshReset && !s.progress.t0 && s.pre.rep != none
        && s.progress.repeating == some (.stos .byte) && !s.flags.df && s.regs.cx == BitVec.ofNat 16 n
        && decide (s.kindAt (phys s.segs.es s.regs.di) = .ram)) = true := by decide

theorem witness_JmpTransfers : Plain romSample := plain_sample.2
theorem witness_CallPushesReturn : Plain romSample ∧ romSample.AllRam (frameBytes romSample) :=
  ⟨plain_sample.2, by unfold State.AllRam; decide⟩
theorem witness_RetPopsReturn : Plain romSample := plain_sample.2

theorem witness_InterruptEntryAndSoftwareInterrupts : Alone romSample ∧ Memory.wf romSample.mem
    ∧ romSample.flags.oF = false ∧ (romSample.setFlags { romSample.flags with oF := true }).flags.oF = true := by decide

theorem witness_IretPopsAndUndoesEntry : Plain romSample ∧ romSample.AllRam (frameBytes romSample) :=
  ⟨plain_sample.2, by unfold State.AllRam; decide⟩

/-- IF set, INTR high, and no NMI, at a CLI. -/
theorem witness_FlagInstructions :
    ∃ t, exec .cli ((start.setFlags { start.flags with iF := true }).setEnv { start.env with intr := true }) = .next t
      ∧ t.latches.nmiPending = false ∧ t.env.intr = true := ⟨_, rfl, by decide, by decide⟩

theorem witness_StiHltWaitEsc : romSample.env.cut = none ∧ Plain romSample := ⟨by decide, plain_sample.2⟩

theorem witness_CsWrittenOnlyByFarTransfers : ∃ t, exec (.jmpFar 0x0100 0xF000) start = .next t
    ∧ t.segs.cs ≠ start.segs.cs := ⟨_, rfl, by decide⟩

/-- POPF from a stack of ones sets TF, IF and DF. -/
theorem witness_ControlFlagWriters :
    ∃ t, exec .popf (poke [(0x200, 0xFF), (0x201, 0xFF)] start) = .next t ∧ start.flags.tf = false ∧ t.flags.tf = true
      ∧ start.flags.iF = false ∧ t.flags.iF = true ∧ t.flags.df ≠ start.flags.df :=
  ⟨_, rfl, by decide, by decide, by decide, by decide, by decide⟩

/-- What may be pending at a boundary: the inhibit window, NMI, INTR with IF, the trap. -/
def pending (inhibit nmi intr iF t0 : Bool) : State :=
  (((start.setLatches { nmiPending := nmi, inhibit := inhibit, halted := false }).setEnv
    { start.env with intr := intr, ackIn := [0x08] }).setFlags { start.flags with iF := iF }).setProgress
    { Progress.idle with mid := true, t0 := t0 }

theorem witness_BoundaryOrder :
    Alone (pending true true true true true)
      ∧ (pending true true true true true).progress.repeating ≠ some .wait
      ∧ (pending true true true true true).latches.inhibit = true
      ∧ (pending false true true true true).latches.inhibit = false
      ∧ (pending false true true true true).latches.nmiPending = true
      ∧ (pending false false true true false).env.intr = true ∧ (pending false false true true false).flags.iF = true
      ∧ (pending false false true true false).env.ackIn = 0x08 :: []
      ∧ (pending false false true false true).flags.iF = false := by decide

theorem witness_BoundaryOrder_turns :
    (inStosb 2).progress.repeating ≠ none ∧ (pending false false false false true).progress.repeating = none := by decide

/-- A one-byte instruction with TF set, and with TF clear. -/
theorem witness_SingleStepTrap :
    ([true, false].all fun tf =>
      let s := (start.placeInstr [0x40]).setFlags { start.flags with tf := tf }
      decide (ReadyFor s (.incR16 .axAl) 1) && decide (Alone s) && !s.progress.mid
        && (match exec (.incR16 .axAl) (s.fetched 1) with
          | .next t => !t.latches.inhibit && !t.latches.nmiPending && !t.env.intr
            && decide (t.progress.repeating ≠ some .wait) && t.progress.t0 == tf
          | .fault _ => false
          | .refused _ => false)) = true := by decide

/-- MOV SS,AX and POP SS with NMI pending and TF set; STI with NMI pending and TF clear. -/
theorem witness_InhibitWindowHoldsOff :
    ([([0x8E, 0xD0], Instr.movSsRm (.reg .axAl), 2, true), ([0x17], .popSs, 1, true), ([0xFB], .sti, 1, false)].all
      fun c =>
        let s := ((start.placeInstr c.1).setFlags { start.flags with tf := c.2.2.2 }).setLatches
          { nmiPending := true, inhibit := false, halted := false }
        decide (ReadyFor s c.2.1 c.2.2.1) && decide (Alone s) && !s.progress.mid) = true := by decide

/-- Halted, with NMI, with INTR and IF, with nothing. -/
theorem witness_WaitingStates_halted :
    ([pending false true false false false, pending false false true true false, pending false false true false false].all
      fun p =>
        let s := p.setLatches { p.latches with halted := true }
        decide (Alone s) && decide (s.env.inputs = []) && !s.progress.freshReset && s.latches.halted) = true := by
  decide

/-- In a WAIT, with TEST high and NMI, INTR and IF, or nothing; and with TEST low. -/
theorem witness_WaitingStates_wait :
    ([(pending false true false false false, false), (pending false false true true false, false),
        (pending false false false false false, false), (pending false false false false false, true)].all fun c =>
      let s := (c.1.setEnv { c.1.env with testLow := c.2 }).setProgress { c.1.progress with repeating := some .wait }
      decide (Alone s) && decide (s.env.inputs = []) && !s.progress.freshReset && !s.latches.halted
        && !s.latches.inhibit && s.env.testLow == c.2 && !s.progress.t0) = true := by decide

theorem witness_ResetState : sample.env.waiting = [] := by decide

/-- MOV [0200h],AX with a RESET before its first byte, between its bytes, and after both; the step from there answers. -/
theorem witness_ResetCutsInstruction :
    ([0, 1, 2].all fun n =>
      let s := ((withData 0xBEEF 0 0 0).placeInstr [0xA3, 0x00, 0x02]).setEnv { start.env with inputs := [[.resetWithin n]] }
      let u := start.setEnv { start.env with cut := some n }
      decide (s.takeInputs.env.cut ≠ none) && goes s && decide (u.env.cut = some n) && decide (u.env.waiting = [])
        && decide (∀ a ∈ accessBytes (u.memSeg (.direct 0x200)) 0x200 .word, u.kindAt a = .ram)) = true := by decide

/-- A LOCK in force and two writes of another master, in each mode. -/
theorem witness_LockHoldsOffBusMasters :
    ([true, false].all fun maxMode =>
      let s := (start.setPre { Prefixes.none with lock := true }).setEnv
        { start.env with maxMode := maxMode, inputs := [[.busWrite ⟨5, 6⟩, .busWrite ⟨7, 8⟩], [.nmiEdge]] }
      s.pre.lock && s.env.maxMode == maxMode
        && decide (s.env.inputs = [⟨5, 6⟩, ⟨7, 8⟩].map HostEvent.busWrite :: [[.nmiEdge]])) = true := by decide

/-- Another master waits to write the byte that INC [0200h] changes, with the bus locked and not. -/
theorem witness_BusMasterGap :
    ([true, false].all fun lock =>
      let s := (start.setPre { Prefixes.none with lock := lock }).setEnv
        { start.env with maxMode := true, waiting := [[⟨0x200, 0x40⟩]] }
      decide ((0x200 : BitVec 20).toNat = phys (s.memSeg (.direct 0x200)) (s.memOff (.direct 0x200)))
        && decide (s.kindAt 0x200 = .ram) && decide (s.env.cut = none) && decide (s.env.waiting = [⟨0x200, 0x40⟩] :: [])
        && s.busLocked == lock) = true := by decide

/-- The last byte that may be queued and the first that may not. -/
theorem witness_QueueHazard : Alone sample ∧ sample.kindAt 0x8104 = .ram ∧ sample.stale = []
    ∧ phys sample.segs.cs (sample.ip + BitVec.ofNat 16 3) = 0x8103
    ∧ ∀ j, j < 4 → phys sample.segs.cs (sample.ip + BitVec.ofNat 16 j) ≠ 0x8104 := by decide

theorem witness_EarlyNmiEitherWay :
    (let s := State.reset.setLatches { State.reset.latches with nmiPending := true }
     decide (Alone s) && decide (s.env.inputs = []) && s.progress.freshReset && s.latches.nmiPending
      && !s.latches.halted && decide (s.progress.repeating = none)) = true := by decide

/-- ES: and then MOV AL,[BX] at an address written: the prefix is active, the instruction completes. -/
theorem witness_PrefixesEndWithInstruction :
    (let s := (((poke [(0, 0x12)] start).placeInstr [0x8A, 0x07]).setPre
        { Prefixes.none with segOvr := some .es }).setProgress { Progress.idle with mid := true, instrIp := 0x00FF }
     decide (ReadyFor s (.movRmReg .byte .toReg (.mem (.based .bx .none)) .axAl) 2)
      && (match step s with
        | .next u => decide (u.progress.repeating = none)
        | .fault _ => false
        | .refused _ => false)) = true := by decide

/-- The last turn of REP STOSB: the instruction ends with a later turn. -/
theorem witness_PrefixesEndWithInstruction_later_turn :
    (let s := inStosb 1
     decide (s.takeInputs.progress.repeating = some (.stos .byte)) && !s.takeInputs.progress.freshReset
      && !s.takeInputs.latches.halted
      && (match step s with
        | .next u => decide (u.progress.repeating = none)
        | .fault _ => false
        | .refused _ => false)) = true := by decide

end Sys2Proof.Tests
end

section
/-! The invariant between two steps (Safety.lean, `StepInv`; 20_memory.md section 1, 10_state.md section 6,
60_exceptions.md section 4). A step changes the prefixes, the latches and the place inside the instruction in a few
named operations only; every other operation keeps them, and keeps memory within the address space. So each operation
gets one rule that says which prefixes, latches and place it leaves (`State.Inside`), and the invariant itself is
reasoned about on those three alone (`HiddenInv`). -/

namespace Sys2Proof.Machine

/-! ## The hidden state a state carries -/

/-- The state holds these prefixes, these latches and this place inside the instruction, memory is in its canonical
form, and every byte that may still be queued has a 20-bit address. -/
structure State.Inside (s : State) (q : Prefixes) (l : Latches) (g : Progress) : Prop where
  memWf : Memory.wf s.mem
  staleInRange : ∀ c ∈ s.stale, c.1 < 2 ^ 20
  pre : s.pre = q
  latches : s.latches = l
  progress : s.progress = g

/-- The place inside the instruction that an interrupt entry leaves: none. -/
abbrev Progress.left (g : Progress) : Progress := { g with mid := false, repeating := none }

/-- The latches with the halt over. -/
abbrev Latches.awake (l : Latches) : Latches := { l with halted := false }

namespace State.Inside

variable {s : State} {q : Prefixes} {l : Latches} {g : Progress}

section
variable (h : s.Inside q l g)
include h

/-! ### Named updates -/

theorem setRegs (v : Regs) : (s.setRegs v).Inside q l g := ⟨h.memWf, h.staleInRange, h.pre, h.latches, h.progress⟩
theorem setSegs (v : Segs) : (s.setSegs v).Inside q l g := ⟨h.memWf, h.staleInRange, h.pre, h.latches, h.progress⟩
theorem setIp (v : Word) : (s.setIp v).Inside q l g := ⟨h.memWf, h.staleInRange, h.pre, h.latches, h.progress⟩
theorem setFlags (v : Flags) : (s.setFlags v).Inside q l g := ⟨h.memWf, h.staleInRange, h.pre, h.latches, h.progress⟩
theorem setEnv (v : Env) : (s.setEnv v).Inside q l g := ⟨h.memWf, h.staleInRange, h.pre, h.latches, h.progress⟩
theorem setDraws (v : Nat) : (s.setDraws v).Inside q l g := ⟨h.memWf, h.staleInRange, h.pre, h.latches, h.progress⟩
theorem setPre (v : Prefixes) : (s.setPre v).Inside v l g := ⟨h.memWf, h.staleInRange, rfl, h.latches, h.progress⟩
theorem setLatches (v : Latches) : (s.setLatches v).Inside q v g := ⟨h.memWf, h.staleInRange, h.pre, rfl, h.progress⟩
theorem setProgress (v : Progress) : (s.setProgress v).Inside q l v := ⟨h.memWf, h.staleInRange, h.pre, h.latches, rfl⟩
theorem setStale {v : List Host.Cell} (hv : ∀ c ∈ v, c.1 < 2 ^ 20) : (s.setStale v).Inside q l g :=
  ⟨h.memWf, hv, h.pre, h.latches, h.progress⟩

theorem setReg (w : Width) (r : Reg) (v : BitVec w.bits) : (s.setReg w r v).Inside q l g := h.setRegs _
theorem setReg16 (r : Reg) (v : Word) : (s.setReg16 r v).Inside q l g := h.setRegs _
theorem setAcc (w : Width) (v : BitVec w.bits) : (s.setAcc w v).Inside q l g := h.setRegs _
theorem setAhAl (a b : Byte) : (s.setAhAl a b).Inside q l g := h.setRegs _
theorem setSeg (i : SReg) (v : Word) : (s.setSeg i v).Inside q l g := h.setSegs _

theorem undefine (ns : List StatusFlag) : (s.undefine ns).Inside q l g :=
  ⟨by simpa using h.memWf, by simpa using h.staleInRange, by simpa using h.pre, by simpa using h.latches,
    by simpa using h.progress⟩

/-! ### The bus -/

theorem store {a : Nat} (ha : a < 2 ^ 20) (v : Byte) : (s.store a v).Inside q l g := by
  refine ⟨s.store_wf a v h.memWf ha, fun c hc => ?_, (s.store_pre a v).trans h.pre,
    (s.store_latches a v).trans h.latches, (s.store_progress a v).trans h.progress⟩
  unfold State.store at hc
  split at hc
  · simp only [State.setStale_stale, State.staleAfter] at hc
    split at hc
    · rcases List.mem_cons.1 hc with rfl | hc
      · exact ha
      · exact h.staleInRange c hc
    · exact h.staleInRange c hc
  · exact h.staleInRange c hc

theorem masterWrites (ws : List MasterWrite) : (s.masterWrites ws).Inside q l g := by
  induction ws generalizing s with
  | nil => exact h
  | cons w ws ih => exact ih (h.store w.addr.isLt w.value)

theorem gap : s.gap.Inside q l g := by
  unfold State.gap
  split
  · exact h
  · split
    · exact h
    · exact (h.setEnv _).masterWrites _

theorem busCycle {f : State → State} (hf : ∀ u : State, u.Inside q l g → (f u).Inside q l g) :
    (s.busCycle f).Inside q l g := by
  unfold State.busCycle
  split
  · exact hf s h
  · exact h
  · exact hf _ (h.setEnv _)

theorem log (e : BusEvent) : (s.log e).Inside q l g := h.setEnv _

theorem afterRead (a : Nat) : (s.afterRead a).Inside q l g := by
  unfold State.afterRead
  split
  · exact h
  · exact h
  · exact h.setDraws _
  · exact h.busCycle fun u hu => ((hu.setEnv _).setDraws _).log _

theorem writeByte {a : Nat} (ha : a < 2 ^ 20) (v : Byte) : (s.writeByte a v).Inside q l g := by
  refine h.busCycle fun u hu => ?_
  split
  · exact hu.log _
  · exact hu.store ha v

theorem afterSeg (sg off : Word) (w : Width) : (s.afterSeg sg off w).Inside q l g := by
  cases w with
  | byte => exact (h.afterRead _).gap
  | word => exact ((h.afterRead _).afterRead _).gap

theorem writeSeg (sg off : Word) (w : Width) (v : BitVec w.bits) : (s.writeSeg sg off w v).Inside q l g := by
  cases w with
  | byte => exact (h.writeByte (phys_lt _ _) _).gap
  | word => exact ((h.writeByte (phys_lt _ _) _).writeByte (phys_lt _ _) _).gap

theorem afterPhys16 (a : Nat) : (s.afterPhys16 a).Inside q l g := ((h.afterRead _).afterRead _).gap
theorem afterVector (type : Byte) : (s.afterVector type).Inside q l g := (h.afterPhys16 _).afterPhys16 _

theorem afterRm (w : Width) (rm : Rm) : (s.afterRm w rm).Inside q l g := by
  cases rm with
  | reg r => exact h
  | mem m => exact h.afterSeg _ _ w

theorem writeRm (w : Width) (rm : Rm) (v : BitVec w.bits) : (s.writeRm w rm v).Inside q l g := by
  cases rm with
  | reg r => exact h.setReg w r v
  | mem m => exact h.writeSeg _ _ w v

theorem afterFar (m : MemRef) : (s.afterFar m).Inside q l g := (h.afterSeg _ _ _).afterSeg _ _ _
theorem afterSource (w : Width) : (s.afterSource w).Inside q l g := h.afterSeg _ _ w
theorem afterDest (w : Width) : (s.afterDest w).Inside q l g := h.afterSeg _ _ w

theorem afterPortRead (port : Word) : (s.afterPortRead port).Inside q l g :=
  h.busCycle fun _ hu => ((hu.setEnv _).setDraws _).log _

theorem portWrite (port : Word) (v : Byte) : (s.portWrite port v).Inside q l g := h.busCycle fun _ hu => hu.log _

theorem ioWrite (port : Word) (w : Width) (v : BitVec w.bits) : (s.ioWrite port w v).Inside q l g := by
  cases w with
  | byte => exact h.portWrite _ _
  | word => exact (h.portWrite _ _).portWrite _ _

theorem inPort (w : Width) (port : Word) : (s.inPort w port).Inside q l g := by
  cases w with
  | byte => exact (h.afterPortRead _).setAcc _ _
  | word => exact ((h.afterPortRead _).afterPortRead _).setAcc _ _

theorem afterAck : s.afterAck.Inside q l g := h.busCycle fun _ hu => ((hu.setEnv _).setDraws _).log _

/-! ### The stack and control transfer -/

theorem push16 (v : Word) : (s.push16 v).Inside q l g := (h.setReg16 _ _).writeSeg _ _ _ _

theorem pushReg (r : Reg) : (s.pushReg r).Inside q l g := by cases r <;> exact h.push16 _

theorem drop16 : s.drop16.Inside q l g := (h.afterSeg _ _ _).setReg16 _ _

theorem jumpNear (off : Word) : (s.jumpNear off).Inside q l g := (h.setIp off).setStale (by simp)
theorem jumpFar (sg off : Word) : (s.jumpFar sg off).Inside q l g := (h.setSeg .cs sg).jumpNear off

theorem jumpIf (c : Bool) (d : Byte) : (s.jumpIf c d).Inside q l g := by
  cases c with
  | false => exact h
  | true => exact h.jumpNear _

theorem pushFarReturn : s.pushFarReturn.Inside q l g := (h.push16 _).push16 _
theorem farReturn : s.farReturn.Inside q l g := (h.drop16.drop16).jumpFar _ _
theorem releaseStack (n : Word) : (s.releaseStack n).Inside q l g := h.setReg16 _ _
theorem loopCount : s.loopCount.Inside q l g := h.setReg16 _ _

/-! ### Interrupts -/

theorem pushFrame (savedIp : Word) : (s.pushFrame savedIp).Inside q l g :=
  (((h.push16 _).setFlags _).push16 _).push16 _

theorem leaveInstruction : s.leaveInstruction.Inside Prefixes.none l.awake g.left := by
  obtain ⟨memWf, staleInRange, rfl, rfl, rfl⟩ := h
  exact ⟨memWf, staleInRange, rfl, rfl, rfl⟩

theorem interruptEntry (type : Byte) (savedIp : Word) :
    (s.interruptEntry type savedIp).Inside Prefixes.none l.awake g.left :=
  (((h.pushFrame savedIp).afterVector type).leaveInstruction).jumpFar _ _

theorem interruptReturn : s.interruptReturn.Inside q l g := (h.drop16.drop16.drop16.setFlags _).jumpFar _ _

theorem enterBetween (type : Byte) (savedIp : Word) :
    (s.enterBetween type savedIp).Inside Prefixes.none l.awake g.left := ((h.setPre _).gap).interruptEntry type savedIp

theorem takeNmi (savedIp : Word) :
    (s.takeNmi savedIp).Inside Prefixes.none { l with nmiPending := false, halted := false } g.left := by
  obtain rfl := h.latches
  exact (h.setLatches _).enterBetween 2 savedIp

/-- Nothing is taken at a boundary, or an interrupt is entered. -/
theorem takeExternal (savedIp : Word) : (s.takeExternal savedIp).Inside q l g
    ∨ ∃ nmi, (s.takeExternal savedIp).Inside Prefixes.none { l with nmiPending := nmi, halted := false } g.left := by
  unfold State.takeExternal
  split
  · exact .inr ⟨_, h.takeNmi savedIp⟩
  · split
    · exact .inr ⟨l.nmiPending, h.afterAck.enterBetween _ savedIp⟩
    · exact .inl h

/-! ### Arithmetic and logic -/

theorem addTo (w : Width) (rm dst : Rm) (b : BitVec w.bits) (c : Bool) : (s.addTo w rm dst b c).Inside q l g :=
  ((h.afterRm _ _).writeRm _ _ _).setFlags _
theorem subFrom (w : Width) (rm dst : Rm) (b : BitVec w.bits) (c : Bool) : (s.subFrom w rm dst b c).Inside q l g :=
  ((h.afterRm _ _).writeRm _ _ _).setFlags _
theorem compare {n : Nat} (a b : BitVec n) : (s.compare a b).Inside q l g := h.setFlags _
theorem increment (w : Width) (dst : Rm) : (s.increment w dst).Inside q l g :=
  ((h.afterRm _ _).writeRm _ _ _).setFlags _
theorem decrement (w : Width) (dst : Rm) : (s.decrement w dst).Inside q l g :=
  ((h.afterRm _ _).writeRm _ _ _).setFlags _
theorem logicFlags {n : Nat} (r : BitVec n) : (s.logicFlags r).Inside q l g := (h.setFlags _).undefine _
theorem logicTo (w : Width) (rm dst : Rm) (r : BitVec w.bits) : (s.logicTo w rm dst r).Inside q l g :=
  ((h.afterRm _ _).writeRm _ _ _).logicFlags _

theorem shift (op : ShiftOp) (w : Width) (v : Count) (rm : Rm) : (s.shift op w v rm).Inside q l g := by
  unfold State.shift
  split
  · exact h.afterRm w rm
  · exact (((h.afterRm w rm).writeRm w rm _).setFlags _).undefine _

theorem setProduct (w : Width) (p : BitVec 32) : (s.setProduct w p).Inside q l g := by
  cases w with
  | byte => exact h.setReg16 _ _
  | word => exact (h.setReg16 _ _).setReg16 _ _

theorem setQuotient (w : Width) (x y : BitVec w.bits) : (s.setQuotient w x y).Inside q l g := by
  cases w with
  | byte => exact h.setAhAl _ _
  | word => exact (h.setReg16 _ _).setReg16 _ _

theorem divideError : s.divideError.Inside Prefixes.none l.awake g.left := (h.undefine _).interruptEntry 0 _

/-! ### String elements -/

theorem movsElement (w : Width) : (s.movsElement w).Inside q l g :=
  (((h.afterSource w).writeSeg _ _ w _).setReg16 _ _).setReg16 _ _
theorem cmpsElement (w : Width) : (s.cmpsElement w).Inside q l g :=
  ((((h.afterSource w).afterDest w).compare _ _).setReg16 _ _).setReg16 _ _
theorem scasElement (w : Width) : (s.scasElement w).Inside q l g := ((h.afterDest w).compare _ _).setReg16 _ _
theorem lodsElement (w : Width) : (s.lodsElement w).Inside q l g := ((h.afterSource w).setAcc w _).setReg16 _ _
theorem stosElement (w : Width) : (s.stosElement w).Inside q l g := (h.writeSeg _ _ w _).setReg16 _ _
theorem countDown : s.countDown.Inside q l g := h.setReg16 _ _

theorem lastTurn : s.lastTurn.Inside q l { g with repeating := none } := by
  obtain rfl := h.progress
  exact h.setProgress _

theorem anotherTurn (p : InProgress) : (s.anotherTurn p).Inside q l { g with repeating := some p } := by
  obtain rfl := h.progress
  exact h.setProgress _

end

end State.Inside

/-! ## The invariant on the hidden state -/

/-- What `StepInv` says of the prefixes, the latches and the place inside the instruction. -/
structure HiddenInv (q : Prefixes) (l : Latches) (g : Progress) : Prop where
  inhibit : l.inhibit = false
  ssLoad : g.ssLoad = false
  idle : g.mid = false → q = Prefixes.none ∧ g.repeating = none ∧ g.t0 = false
  active : g.mid = true → g.repeating = none → q ≠ Prefixes.none
  turn : ∀ p, g.repeating = some p → (q.rep = none ↔ p = .wait)
  halted : l.halted = true → g.mid = false
  fresh : g.freshReset = true → g.mid = false ∧ l.halted = false

/-- What holds in the course of a step, outside of instructions: the invariant, but for what the end of the step mends. -/
def State.Between (s : State) : Prop := ∃ q l g, s.Inside q l g ∧ HiddenInv q l g

/-- The latches and the place while an instruction is executed. -/
structure Running (l : Latches) (g : Progress) : Prop where
  mid : g.mid = true
  inhibit : l.inhibit = false
  ssLoad : g.ssLoad = false
  halted : l.halted = false
  fresh : g.freshReset = false

/-- What the effect of an instruction leaves: a further turn to run only while the instruction goes on, repeated
where it is a turn of a string instruction and not where it is a turn of WAIT. -/
def State.Executed (s : State) : Prop :=
  ∃ q l g, s.Inside q l g ∧ g.freshReset = false
    ∧ ∀ p, g.repeating = some p → Running l g ∧ (q.rep = none ↔ p = .wait)

theorem State.between_iff (s : State) : s.Between ↔
    Memory.wf s.mem ∧ (∀ c ∈ s.stale, c.1 < 2 ^ 20) ∧ HiddenInv s.pre s.latches s.progress := by
  constructor
  · rintro ⟨_, _, _, ⟨memWf, staleInRange, rfl, rfl, rfl⟩, hidden⟩
    exact ⟨memWf, staleInRange, hidden⟩
  · rintro ⟨memWf, staleInRange, hidden⟩
    exact ⟨_, _, _, ⟨memWf, staleInRange, rfl, rfl, rfl⟩, hidden⟩

/-- The invariant is what holds in the course of a step, with no RESET under way and no other master waiting for a free
bus. -/
theorem stepInv_iff (s : State) :
    StepInv s ↔ s.Between ∧ s.env.cut = none ∧ (s.busLocked = false → s.env.waiting = []) := by
  rw [State.between_iff]
  constructor
  · rintro ⟨memWf, stale, inhibit, ssLoad, idle, active, turn, halted, fresh, cut, waiting⟩
    exact ⟨⟨memWf, stale, inhibit, ssLoad, idle, active, turn, halted, fresh⟩, cut, waiting⟩
  · rintro ⟨⟨memWf, stale, inhibit, ssLoad, idle, active, turn, halted, fresh⟩, cut, waiting⟩
    exact ⟨memWf, stale, inhibit, ssLoad, idle, active, turn, halted, fresh, cut, waiting⟩

/-- An interrupt entry between two instructions keeps the invariant: it leaves no instruction in progress. -/
theorem HiddenInv.of_left {l : Latches} {g : Progress} (inhibit : l.inhibit = false) (ssLoad : g.ssLoad = false)
    (t0 : g.t0 = false) : HiddenInv Prefixes.none l.awake g.left where
  inhibit := inhibit
  ssLoad := ssLoad
  idle := fun _ => ⟨rfl, rfl, t0⟩
  active := fun h => nomatch h
  turn := fun _ h => nomatch h
  halted := fun _ => rfl
  fresh := fun _ => ⟨rfl, rfl⟩

/-- An instruction in progress keeps the invariant if it has one of the prefixes or a turn to run. -/
theorem HiddenInv.of_running {q : Prefixes} {l : Latches} {g : Progress} (running : Running l g)
    (active : g.repeating = none → q ≠ Prefixes.none)
    (turn : ∀ p, g.repeating = some p → (q.rep = none ↔ p = .wait)) : HiddenInv q l g where
  inhibit := running.inhibit
  ssLoad := running.ssLoad
  idle := fun idle => nomatch running.mid.symm.trans idle
  active := fun _ => active
  turn := turn
  halted := fun halted => nomatch running.halted.symm.trans halted
  fresh := fun fresh => nomatch running.fresh.symm.trans fresh

/-- What the end of an instruction leaves when no turn of it is left to run. -/
theorem HiddenInv.of_ended {l : Latches} {g : Progress} (inhibit : l.inhibit = false) (ended : g.repeating = none)
    (fresh : g.freshReset = false) :
    HiddenInv Prefixes.none l { g with mid := false, t0 := false, ssLoad := false } where
  inhibit := inhibit
  ssLoad := rfl
  idle := fun _ => ⟨rfl, ended, rfl⟩
  active := fun h => nomatch h
  turn := fun _ hp => nomatch ended.symm.trans hp
  halted := fun _ => rfl
  fresh := fun isFresh => nomatch fresh.symm.trans isFresh

theorem HiddenInv.reset : HiddenInv Prefixes.none State.reset.latches State.reset.progress := by
  constructor <;> simp [State.reset, Progress.idle]

/-! ## The host's events -/

theorem State.Inside.resetCpu {s : State} {q : Prefixes} {l : Latches} {g : Progress} (h : s.Inside q l g) :
    s.resetCpu.Inside Prefixes.none State.reset.latches State.reset.progress :=
  ⟨h.memWf, fun _ hc => (nomatch hc), rfl, rfl, rfl⟩

theorem State.Inside.releaseBus {s : State} {q : Prefixes} {l : Latches} {g : Progress} (h : s.Inside q l g) :
    s.releaseBus.Inside q l g := by
  unfold State.releaseBus
  split
  · exact h
  · exact (h.setEnv _).masterWrites _

/-- Every event of the host keeps the invariant on the hidden state. -/
theorem State.Between.applyEvent {s : State} (h : s.Between) (e : HostEvent) : (s.applyEvent e).Between := by
  obtain ⟨q, l, g, inside, hidden⟩ := h
  cases e with
  | nmiEdge =>
    obtain rfl := inside.latches
    exact ⟨_, _, _, inside.setLatches _, ⟨hidden.inhibit, hidden.ssLoad, hidden.idle, hidden.active, hidden.turn,
      hidden.halted, hidden.fresh⟩⟩
  | intrLevel high => exact ⟨q, l, g, inside.setEnv _, hidden⟩
  | testLevel low => exact ⟨q, l, g, inside.setEnv _, hidden⟩
  | reset => exact ⟨_, _, _, inside.resetCpu.releaseBus, HiddenInv.reset⟩
  | busWrite w =>
    show (if s.busLocked then s.putOff [w] else s.masterWrites [w]).Between
    split
    · exact ⟨q, l, g, inside.setEnv _, hidden⟩
    · exact ⟨q, l, g, inside.masterWrites [w], hidden⟩
  | within ws => exact ⟨q, l, g, inside.setEnv _, hidden⟩
  | resetWithin n => exact ⟨q, l, g, inside.setEnv _, hidden⟩

theorem State.Between.applyEvents {s : State} (h : s.Between) (es : List HostEvent) :
    (es.foldl State.applyEvent s).Between := by
  induction es generalizing s with
  | nil => exact h
  | cons e es ih => exact ih (h.applyEvent e)

theorem State.Between.takeInputs {s : State} (h : s.Between) : s.takeInputs.Between := by
  unfold State.takeInputs
  split
  · exact h
  · obtain ⟨q, l, g, inside, hidden⟩ := h
    exact State.Between.applyEvents ⟨q, l, g, inside.setEnv _, hidden⟩ _

/-! ## The end of a step -/

@[simp] theorem State.masterWrites_env (s : State) (ws : List MasterWrite) : (s.masterWrites ws).env = s.env := by
  induction ws generalizing s with
  | nil => rfl
  | cons w ws ih => exact (ih _).trans (s.store_env _ _)

theorem State.releaseBus_cut (s : State) : s.releaseBus.env.cut = s.env.cut := by
  unfold State.releaseBus
  split <;> simp

/-- Where the bus is free no other master waits for it any more. -/
theorem State.releaseBus_waiting (s : State) (h : s.releaseBus.busLocked = false) : s.releaseBus.env.waiting = [] := by
  unfold State.releaseBus at h ⊢
  split
  · next locked => rw [if_pos locked, locked] at h; cases h
  · simp

theorem State.Between.stepInv_releaseBus {s : State} (h : s.Between) (cut : s.env.cut = none) :
    StepInv s.releaseBus := by
  obtain ⟨q, l, g, inside, hidden⟩ := h
  exact (stepInv_iff _).2 ⟨⟨q, l, g, inside.releaseBus, hidden⟩, s.releaseBus_cut.trans cut, s.releaseBus_waiting⟩

/-- The end of a step mends the rest of the invariant: a RESET has taken effect, and where the bus is free the writes of
other masters are made. -/
theorem State.Between.stepInv_finish {s : State} (h : s.Between) : StepInv s.finish := by
  unfold State.finish
  split
  · obtain ⟨q, l, g, inside, -⟩ := h
    exact State.Between.stepInv_releaseBus ⟨_, _, _, inside.resetCpu, HiddenInv.reset⟩ rfl
  · next noCut => exact h.stepInv_releaseBus (Option.not_isSome_iff_eq_none.1 noCut)

/-! ## The boundary after an instruction -/

theorem State.Inside.executed_of_ended {s : State} {q : Prefixes} {l : Latches} {g : Progress} (h : s.Inside q l g)
    (ended : g.repeating = none) (fresh : g.freshReset = false) : s.Executed :=
  ⟨q, l, g, h, fresh, fun p hp => by rw [ended] at hp; cases hp⟩

theorem State.Executed.takeExternal {s : State} (h : s.Executed) (savedIp : Word) :
    (s.takeExternal savedIp).Executed := by
  obtain ⟨q, l, g, inside, fresh, turn⟩ := h
  rcases inside.takeExternal savedIp with same | ⟨_, entered⟩
  · exact ⟨q, l, g, same, fresh, turn⟩
  · exact entered.executed_of_ended rfl fresh

theorem State.Executed.trapStep {s : State} (h : s.Executed) : s.trapStep.Executed := by
  unfold State.trapStep
  split
  · obtain ⟨q, l, g, inside, fresh, -⟩ := h
    exact (inside.enterBetween 1 _).executed_of_ended rfl fresh
  · exact h

/-- The window can only be closed where a turn is left to run, so closing it changes nothing there. -/
theorem State.Executed.closeWindow {s : State} (h : s.Executed) :
    (s.setLatches { s.latches with inhibit := false }).Executed := by
  obtain ⟨q, l, g, inside, fresh, turn⟩ := h
  obtain rfl := inside.latches
  refine ⟨_, _, _, inside.setLatches _, fresh, fun p hp => ?_⟩
  obtain ⟨running, rep⟩ := turn p hp
  exact ⟨⟨running.mid, rfl, running.ssLoad, running.halted, running.fresh⟩, rep⟩

theorem State.Executed.boundary {s : State} (h : s.Executed) : s.boundary.Executed := by
  unfold State.boundary
  split
  · dsimp only
    split
    · exact h.closeWindow
    · exact h.closeWindow.trapStep
  · exact (h.takeExternal _).trapStep

@[simp] theorem State.trapStep_inhibit (s : State) : s.trapStep.latches.inhibit = s.latches.inhibit := by
  unfold State.trapStep
  split <;> simp

@[simp] theorem State.takeExternal_inhibit (s : State) (savedIp : Word) :
    (s.takeExternal savedIp).latches.inhibit = s.latches.inhibit := by
  unfold State.takeExternal State.takeNmi State.takeIntr
  split
  · simp
  · split <;> simp

/-- The boundary closes the inhibit window. -/
@[simp] theorem State.boundary_inhibit (s : State) : s.boundary.latches.inhibit = false := by
  unfold State.boundary
  split
  · dsimp only
    split <;> simp
  · next window => simpa using window

/-- With the window closed the end of an instruction gives the invariant on the hidden state. -/
theorem State.Executed.between_endInstr {s : State} (h : s.Executed) (window : s.latches.inhibit = false) :
    s.endInstr.Between := by
  obtain ⟨q, l, g, inside, fresh, turn⟩ := h
  obtain rfl := inside.latches
  obtain rfl := inside.progress
  unfold State.endInstr
  split
  · next going =>
    obtain ⟨p, hp⟩ := Option.isSome_iff_exists.1 going
    refine ⟨q, _, _, inside, HiddenInv.of_running (turn p hp).1 (fun ended => ?_) fun p' hp' => (turn p' hp').2⟩
    exact nomatch ended.symm.trans hp
  · next ended =>
    have noTurn := Option.not_isSome_iff_eq_none.1 ended
    exact ⟨_, _, _, (inside.setPre _).setProgress _, HiddenInv.of_ended window noTurn fresh⟩

/-- What follows the effect of an instruction gives the invariant on the hidden state. In a turn of WAIT no window is
open. -/
theorem State.Executed.between_complete {s : State} (h : s.Executed) : s.complete.Between := by
  unfold State.complete
  split
  · next waits =>
    refine (h.takeExternal _).between_endInstr ?_
    obtain ⟨q, l, g, inside, -, turn⟩ := h
    rw [State.takeExternal_inhibit, inside.latches]
    exact (turn .wait (inside.progress ▸ waits)).1.inhibit
  · exact h.boundary.between_endInstr s.boundary_inhibit

theorem Completes.between_complete {i : Instr} {s t : State} (h : Completes i s State.Executed)
    (answer : completeAnswer (exec i s) = .next t) : t.Between := by
  obtain ⟨u, hu, executed⟩ := h
  rw [hu] at answer
  cases answer
  exact executed.between_complete

/-! ## The effect of an instruction -/

section
variable {s : State} {q : Prefixes} {l : Latches} {g : Progress}

theorem State.Inside.executed_lastTurn (h : s.Inside q l g) (running : Running l g) : s.lastTurn.Executed :=
  h.lastTurn.executed_of_ended rfl running.fresh

theorem State.Inside.executed_anotherTurn (h : s.Inside q l g) (running : Running l g) {p : InProgress}
    (rep : q.rep = none ↔ p = .wait) : (s.anotherTurn p).Executed := by
  refine ⟨_, _, _, h.anotherTurn p, running.fresh, fun p' hp' => ?_⟩
  obtain rfl := Option.some.inj hp'
  exact ⟨⟨running.mid, running.inhibit, running.ssLoad, running.halted, running.fresh⟩, rep⟩

/-- A turn of a string instruction (43_string.md rule R241): another turn follows only where it is repeated. -/
theorem State.Inside.executed_stringTurn (h : s.Inside q l g) (running : Running l g) {p : InProgress} (hp : p ≠ .wait)
    (compares : Bool) {element : State → State} (he : (element s).Inside q l g) :
    (s.stringTurn p compares element).Executed := by
  unfold State.stringTurn
  split
  · exact he.executed_lastTurn running
  · next k hk =>
    have repeats : q.rep = some k := h.pre ▸ hk
    split
    · exact h.executed_lastTurn running
    split
    · exact he.countDown.executed_lastTurn running
    · exact he.countDown.executed_anotherTurn running (by simp [repeats, hp])

theorem exec_string_executed (h : s.Inside q l g) (running : Running l g) (i : Instr)
    (hi : isStringPrimitive i = true) : Completes i s State.Executed := by
  cases i with
  | movs w => exact ⟨_, rfl, h.executed_stringTurn running (by simp) _ (h.movsElement w)⟩
  | cmps w => exact ⟨_, rfl, h.executed_stringTurn running (by simp) _ (h.cmpsElement w)⟩
  | scas w => exact ⟨_, rfl, h.executed_stringTurn running (by simp) _ (h.scasElement w)⟩
  | lods w => exact ⟨_, rfl, h.executed_stringTurn running (by simp) _ (h.lodsElement w)⟩
  | stos w => exact ⟨_, rfl, h.executed_stringTurn running (by simp) _ (h.stosElement w)⟩
  | _ => cases hi

theorem exec_wait_executed (h : s.Inside q l g) (running : Running l g) (noRepeat : q.rep = none) :
    Completes .wait s State.Executed := by
  refine ⟨_, rfl, ?_⟩
  split
  · exact h.executed_lastTurn running
  · exact h.executed_anotherTurn running (by simp [noRepeat])

/-- A byte of the prefixes sets its piece of them, so that one is active after it, and changes nothing else
(10_state.md rule R42). -/
theorem exec_prefixByte_inside (h : s.Inside q l g) (i : Instr) (hi : isPrefixByte i = true) :
    Completes i s fun t => ∃ q', q' ≠ Prefixes.none ∧ t.Inside q' l g := by
  cases i with
  | seg sr => exact ⟨_, rfl, _, by simp [Prefixes.none], h.setPre _⟩
  | lock => exact ⟨_, rfl, _, by simp [Prefixes.none], h.setPre _⟩
  | repne => exact ⟨_, rfl, _, by simp [Prefixes.none], h.setPre _⟩
  | rep => exact ⟨_, rfl, _, by simp [Prefixes.none], h.setPre _⟩
  | _ => cases hi

theorem State.Inside.loadSs (h : s.Inside q l g) (v : Word) :
    (s.loadSs v).Inside q { l with inhibit := true } { g with ssLoad := true } := by
  obtain rfl := h.latches
  obtain rfl := h.progress
  exact ((h.setSeg .ss v).setLatches _).setProgress _

/-- Every instruction but a string primitive, WAIT and the prefixes leaves no turn to run, whatever else it does. The
cases follow the shared operation the instruction is made of. -/
theorem exec_executed_of_oneTurn (h : s.Inside q l g) (ended : g.repeating = none) (fresh : g.freshReset = false)
    (i : Instr) (notString : isStringPrimitive i = false) (notWait : i ≠ .wait) : Completes i s State.Executed := by
  have finished : ∀ {t : State} {q l}, t.Inside q l g → t.Executed := fun ht => ht.executed_of_ended ended fresh
  have entered : ∀ {t : State} {q l}, t.Inside q l g.left → t.Executed := fun ht => ht.executed_of_ended rfl fresh
  cases i with
  | movs | cmps | stos | lods | scas => cases notString
  | wait => exact absurd rfl notWait
  | seg | lock | repne | rep => exact ⟨_, rfl, finished (h.setPre _)⟩
  | addRmReg | addRmImm | addAccImm | adcRmReg | adcRmImm | adcAccImm => exact ⟨_, rfl, finished (h.addTo _ _ _ _ _)⟩
  | subRmReg | subRmImm | subAccImm | sbbRmReg | sbbRmImm | sbbAccImm => exact ⟨_, rfl, finished (h.subFrom _ _ _ _ _)⟩
  | cmpRmReg | cmpRmImm => exact ⟨_, rfl, finished ((h.afterRm _ _).compare _ _)⟩
  | cmpAccImm => exact ⟨_, rfl, finished (h.compare _ _)⟩
  | orRmReg | orRmImm | orAccImm | andRmReg | andRmImm | andAccImm | xorRmReg | xorRmImm | xorAccImm =>
    exact ⟨_, rfl, finished (h.logicTo _ _ _ _)⟩
  | testRmReg | testRmImm => exact ⟨_, rfl, finished ((h.afterRm _ _).logicFlags _)⟩
  | testAccImm => exact ⟨_, rfl, finished (h.logicFlags _)⟩
  | incR16 | incRm => exact ⟨_, rfl, finished (h.increment _ _)⟩
  | decR16 | decRm => exact ⟨_, rfl, finished (h.decrement _ _)⟩
  | neg => exact ⟨_, rfl, finished (((h.afterRm _ _).writeRm _ _ _).setFlags _)⟩
  | not => exact ⟨_, rfl, finished ((h.afterRm _ _).writeRm _ _ _)⟩
  | daa | das => exact ⟨_, rfl, finished (((h.setAcc _ _).setFlags _).undefine _)⟩
  | aaa | aas | aam | aad => exact ⟨_, rfl, finished (((h.setAhAl _ _).setFlags _).undefine _)⟩
  | mul | imul => exact ⟨_, rfl, finished ((((h.afterRm _ _).setProduct _ _).setFlags _).undefine _)⟩
  | div w rm | idiv w rm =>
    refine ⟨_, rfl, ?_⟩
    split
    · exact entered (h.afterRm w rm).divideError
    · exact finished (((h.afterRm w rm).setQuotient _ _ _).undefine _)
  | rol | ror | rcl | rcr | shl | shr | sar => exact ⟨_, rfl, finished (h.shift _ _ _ _)⟩
  | cbw | lahf => exact ⟨_, rfl, finished (h.setAhAl _ _)⟩
  | cwd | lea => exact ⟨_, rfl, finished (h.setReg16 _ _)⟩
  | movRmReg => exact ⟨_, rfl, finished ((h.afterRm _ _).writeRm _ _ _)⟩
  | movRmImm | movRmSreg => exact ⟨_, rfl, finished (h.writeRm _ _ _)⟩
  | movRegImm => exact ⟨_, rfl, finished (h.setReg _ _ _)⟩
  | movAccMem | xlat => exact ⟨_, rfl, finished ((h.afterSeg _ _ _).setAcc _ _)⟩
  | movMemAcc => exact ⟨_, rfl, finished (h.writeSeg _ _ _ _)⟩
  | movEsRm | movDsRm => exact ⟨_, rfl, finished ((h.afterRm _ _).setSeg _ _)⟩
  | movSsRm => exact ⟨_, rfl, ((h.afterRm _ _).loadSs _).executed_of_ended ended fresh⟩
  | popSs => exact ⟨_, rfl, (h.drop16.loadSs _).executed_of_ended ended fresh⟩
  | popEs | popDs => exact ⟨_, rfl, finished (h.drop16.setSeg _ _)⟩
  | popR16 => exact ⟨_, rfl, finished (h.drop16.setReg16 _ _)⟩
  | popRm => exact ⟨_, rfl, finished (h.drop16.writeRm _ _ _)⟩
  | popf => exact ⟨_, rfl, finished (h.drop16.setFlags _)⟩
  | pushSreg | pushf => exact ⟨_, rfl, finished (h.push16 _)⟩
  | pushR16 => exact ⟨_, rfl, finished (h.pushReg _)⟩
  | pushRm rm =>
    cases rm with
    | reg r => exact ⟨_, rfl, finished (h.pushReg r)⟩
    | mem m => exact ⟨_, rfl, finished ((h.afterRm _ _).push16 _)⟩
  | xchgRmReg => exact ⟨_, rfl, finished (((h.afterRm _ _).writeRm _ _ _).setReg _ _ _)⟩
  | xchgAxCx | xchgAxDxBx | xchgAxIndex => exact ⟨_, rfl, finished ((h.setReg16 _ _).setReg16 _ _)⟩
  | nop => exact ⟨_, rfl, finished h⟩
  | inImm | inDx => exact ⟨_, rfl, finished (h.inPort _ _)⟩
  | outImm | outDx => exact ⟨_, rfl, finished (h.ioWrite _ _ _)⟩
  | lds | les => exact ⟨_, rfl, finished (((h.afterFar _).setReg16 _ _).setSeg _ _)⟩
  | sahf | clc | cmc | stc | cld | std | cli => exact ⟨_, rfl, finished (h.setFlags _)⟩
  | sti => exact ⟨_, rfl, finished ((h.setFlags _).setLatches _)⟩
  | hlt => exact ⟨_, rfl, finished ((h.setLatches _).busCycle fun _ hu => hu.log _)⟩
  | esc op rm =>
    cases rm with
    | reg r => exact ⟨_, rfl, finished h⟩
    | mem m => exact ⟨_, rfl, finished ((h.afterRm _ _).busCycle fun _ hu => hu.log _)⟩
  | jo | jno | jb | jnb | je | jne | jbe | jnbe | js | jns | jp | jnp | jl | jnl | jle | jnle | jcxz =>
    exact ⟨_, rfl, finished (h.jumpIf _ _)⟩
  | loop | loopz | loopnz => exact ⟨_, rfl, finished (h.loopCount.jumpIf _ _)⟩
  | callNear => exact ⟨_, rfl, finished ((h.push16 _).jumpNear _)⟩
  | callRm => exact ⟨_, rfl, finished (((h.afterRm _ _).push16 _).jumpNear _)⟩
  | callFar => exact ⟨_, rfl, finished (h.pushFarReturn.jumpFar _ _)⟩
  | callFarMem => exact ⟨_, rfl, finished ((h.afterFar _).pushFarReturn.jumpFar _ _)⟩
  | jmpNear | jmpShort => exact ⟨_, rfl, finished (h.jumpNear _)⟩
  | jmpRm => exact ⟨_, rfl, finished ((h.afterRm _ _).jumpNear _)⟩
  | jmpFar => exact ⟨_, rfl, finished (h.jumpFar _ _)⟩
  | jmpFarMem => exact ⟨_, rfl, finished ((h.afterFar _).jumpFar _ _)⟩
  | retNear => exact ⟨_, rfl, finished (h.drop16.jumpNear _)⟩
  | retNearImm => exact ⟨_, rfl, finished ((h.drop16.jumpNear _).releaseStack _)⟩
  | retFar => exact ⟨_, rfl, finished h.farReturn⟩
  | retFarImm => exact ⟨_, rfl, finished (h.farReturn.releaseStack _)⟩
  | int | int3 => exact ⟨_, rfl, entered (h.interruptEntry _ _)⟩
  | into =>
    refine ⟨_, rfl, ?_⟩
    split
    · exact entered (h.interruptEntry 4 _)
    · exact finished h
  | iret => exact ⟨_, rfl, finished h.interruptReturn⟩

end

/-! ## One turn -/

/-- A further turn of an instruction in progress. -/
theorem exec_turn_executed {s : State} {q : Prefixes} {l : Latches} {g : Progress} (h : s.Inside q l g)
    (running : Running l g) (p : InProgress) (turn : q.rep = none ↔ p = .wait) :
    Completes p.instr s State.Executed := by
  cases p with
  | wait => exact exec_wait_executed h running (turn.2 rfl)
  | movs | cmps | stos | lods | scas => exact exec_string_executed h running _ rfl

/-- An instruction that has been fetched, one of the prefixes or not. -/
theorem State.Inside.between_runInstr {s t : State} {q : Prefixes} {l : Latches} {g : Progress} (h : s.Inside q l g)
    (running : Running l g) (noTurn : g.repeating = none) (i : Instr) (answer : runInstr i s = .next t) :
    t.Between := by
  unfold runInstr at answer
  split at answer
  · next isPrefix =>
    obtain ⟨u, hu, q', active, inside⟩ := exec_prefixByte_inside h i isPrefix
    obtain rfl := Host.Outcome.next.inj (hu.symm.trans answer)
    exact ⟨q', l, g, inside, HiddenInv.of_running running (fun _ => active) fun p hp => nomatch noTurn.symm.trans hp⟩
  split at answer
  · cases answer
  · next allowed =>
    refine Completes.between_complete ?_ answer
    by_cases isString : isStringPrimitive i = true
    · exact exec_string_executed h running i isString
    by_cases isWait : i = .wait
    · subst isWait
      exact exec_wait_executed h running (by simpa [isStringPrimitive, h.pre] using allowed)
    · exact exec_executed_of_oneTurn h noTurn running.fresh i (by simpa using isString) isWait

/-- The fetch puts the machine inside the instruction. -/
theorem State.Inside.fetched {s : State} {q : Prefixes} {l : Latches} {g : Progress} (h : s.Inside q l g)
    (hidden : HiddenInv q l g) (awake : l.halted = false) (noTurn : g.repeating = none) (fresh : g.freshReset = false)
    (len : Nat) : ∃ g', (s.beginInstr.advance len).gap.Inside q l g' ∧ Running l g' ∧ g'.repeating = none := by
  have advanced : ∀ {u : State} {g'}, u.Inside q l g' → (u.advance len).gap.Inside q l g' := fun hu =>
    (((hu.setStale fun c hc => hu.staleInRange c (List.mem_of_mem_filter hc)).setDraws _).setIp _).gap
  obtain rfl := h.progress
  unfold State.beginInstr
  split
  · next mid => exact ⟨_, advanced h, ⟨mid, hidden.inhibit, hidden.ssLoad, awake, fresh⟩, noTurn⟩
  · exact ⟨_, advanced (h.setProgress _), ⟨rfl, hidden.inhibit, hidden.ssLoad, awake, fresh⟩, noTurn⟩

/-- A turn of the halt loop, of the instruction in progress, or of the next instruction. -/
theorem State.Between.of_turn {s t : State} (h : s.Between) (fresh : s.progress.freshReset = false)
    (answer : s.turn = .next t) : t.Between := by
  obtain ⟨q, l, g, inside, hidden⟩ := h
  obtain rfl := inside.latches
  obtain rfl := inside.progress
  unfold State.turn at answer
  split at answer
  · next halted =>
    obtain rfl := Host.Outcome.next.inj answer
    obtain ⟨-, -, t0⟩ := hidden.idle (hidden.halted halted)
    rcases inside.takeExternal s.ip with same | ⟨_, entered⟩
    · exact ⟨_, _, _, same, hidden⟩
    · exact ⟨_, _, _, entered, HiddenInv.of_left (l := { s.latches with nmiPending := _ }) hidden.inhibit hidden.ssLoad t0⟩
  · next awake =>
    have awake : s.latches.halted = false := by simpa using awake
    split at answer
    · next p hp =>
      have mid : s.progress.mid = true := by
        cases idle : s.progress.mid with
        | true => rfl
        | false => exact nomatch (hidden.idle idle).2.1.symm.trans hp
      have running : Running s.latches s.progress := ⟨mid, hidden.inhibit, hidden.ssLoad, awake, fresh⟩
      exact (exec_turn_executed inside running p (hidden.turn p hp)).between_complete answer
    · next noTurn =>
      unfold State.fetchAndRun at answer
      split at answer
      · cases answer
      · next i len _ =>
        obtain ⟨g', begun, running, noTurn'⟩ := inside.fetched hidden awake noTurn fresh len
        exact begun.between_runInstr running noTurn' i answer

/-- The first turn after a reset, whether an early NMI is taken before the first instruction or after it. -/
theorem State.Between.of_firstTurn {s t : State} (h : s.Between) (fresh : s.progress.freshReset = true)
    (answer : s.firstTurn = .next t) : t.Between := by
  obtain ⟨q, l, g, inside, hidden⟩ := h
  obtain rfl := inside.latches
  obtain rfl := inside.progress
  obtain ⟨mid, awake⟩ := hidden.fresh fresh
  obtain ⟨rfl, noTurn, t0⟩ := hidden.idle mid
  have begun : HiddenInv Prefixes.none s.latches { s.progress with freshReset := false } :=
    { hidden with fresh := fun isFresh => nomatch isFresh }
  unfold State.firstTurn at answer
  dsimp only at answer
  split at answer
  · split at answer
    · obtain rfl := Host.Outcome.next.inj answer
      exact ⟨_, _, _, ((inside.setProgress _).setDraws _).takeNmi s.ip,
        HiddenInv.of_left (l := { s.latches with nmiPending := false }) hidden.inhibit hidden.ssLoad t0⟩
    · exact State.Between.of_turn ⟨_, _, _, (inside.setProgress _).setDraws _, begun⟩ rfl answer
  · exact State.Between.of_turn ⟨_, _, _, inside.setProgress _, begun⟩ rfl answer

theorem State.Between.of_cycle {s t : State} (h : s.takeInputs.Between)
    (answer : (if s.takeInputs.progress.freshReset then s.takeInputs.firstTurn else s.takeInputs.turn) = .next t) :
    t.Between := by
  split at answer
  · next fresh => exact h.of_firstTurn fresh answer
  · next fetched => exact h.of_turn (by simpa using fetched) answer

theorem finishAnswer_next {a : Answer} {t : State} (h : finishAnswer a = .next t) :
    ∃ u, a = .next u ∧ t = u.finish := by
  cases a with
  | next u => exact ⟨u, rfl, (Host.Outcome.next.inj h).symm⟩
  | fault => cases h
  | refused => cases h

/-- Settles O9: the events of the host keep the invariant on the hidden state, so does the turn of the machine, and the
end of the step mends the rest. -/
theorem stepKeepsInv : Obligations.StepKeepsInv := by
  intro s t inv answer
  obtain ⟨between, -⟩ := (stepInv_iff s).1 inv
  obtain ⟨u, turn, rfl⟩ := finishAnswer_next answer
  exact (between.takeInputs.of_cycle turn).stepInv_finish

end Sys2Proof.Machine
end

section
/-! The conditional jumps after CMP (44_control_transfer.md rules R280 and R297, 00_scope.md rule R12): what CF, ZF, SF
and OF of a difference say of its two operands, and what a conditional jump does with a flag. -/

namespace Sys2Proof.Machine

/-! ## The flags of a difference -/

theorem subResult_false {n : Nat} (a b : BitVec n) : subResult a b false = a - b := by
  apply BitVec.eq_of_toInt_eq
  rw [subResult, BitVec.toInt_ofInt, BitVec.toInt_sub, BitVec.toInt_eq_toNat_bmod, BitVec.toInt_eq_toNat_bmod]
  simp

/-- CF is the unsigned order. -/
theorem Flags.sub_cf {n : Nat} (f : Flags) (a b : BitVec n) :
    (f.sub a b false).cf = decide (a.toNat < b.toNat) := by
  simp [Flags.sub]

/-- ZF is equality. -/
theorem Flags.sub_zf {n : Nat} (f : Flags) (a b : BitVec n) : (f.sub a b false).zf = decide (a = b) := by
  show (subResult a b false == 0#n) = _
  rw [subResult_false, beq_eq_decide]
  exact decide_eq_decide.2 sub_eq_zero

/-- SF differs from OF exactly in the signed order. Of two operands with one sign the difference does not overflow, so
SF is its sign and OF is clear; of two with different signs the smaller is the negative one, and OF is set where SF is
not that sign. -/
theorem Flags.sub_sf_bne_oF {n : Nat} (f : Flags) (a b : BitVec n) :
    ((f.sub a b false).sf != (f.sub a b false).oF) = decide (a.toInt < b.toInt) := by
  show ((subResult a b false).msb != ((a.msb != b.msb) && (subResult a b false).msb != a.msb)) = _
  rw [subResult_false]
  have ha := BitVec.msb_eq_toInt (x := a)
  have hb := BitVec.msb_eq_toInt (x := b)
  by_cases signs : a.msb = b.msb
  · have fits : ¬ a.ssubOverflow b := by rw [BitVec.ssubOverflow_eq, signs]; cases b.msb <;> simp
    have hr := BitVec.msb_eq_toInt (x := a - b)
    rw [BitVec.toInt_sub_of_not_ssubOverflow fits] at hr
    simp [signs, hr]
  · have sign : ((a - b).msb != ((a.msb != b.msb) && (a - b).msb != a.msb)) = a.msb := by
      cases ea : a.msb <;> cases eb : b.msb <;> cases (a - b).msb <;> simp_all
    rw [sign, ha]
    apply decide_eq_decide.2
    have opposite : ¬ (a.toInt < 0 ↔ b.toInt < 0) := fun e => signs (by rw [ha, hb]; exact decide_eq_decide.2 e)
    omega

/-! ## The jumps -/

/-- What a conditional jump does, whatever its condition is called. -/
theorem State.jumpIf_jumpsWhen {j : Instr} {s : State} {taken : Bool} {c : Prop} {d : Byte}
    (hj : exec j s = .next (s.jumpIf taken d)) (hc : taken = true ↔ c) : JumpsWhen j s c d s.regs.cx := by
  refine ⟨_, hj, fun h => ?_, fun h => ?_, by simp, fun r _ => by simp, by simp, by simp, by simp, by simp [SameHidden]⟩
  · rw [hc.2 h]; rfl
  · rw [Bool.eq_false_iff.2 (mt hc.1 h)]; rfl

/-- The ten jumps on an order or equality, on the flags of a comparison. -/
theorem State.compare_jumps (s : State) {n : Nat} (a b : BitVec n) (d : Byte) :
    let t := s.compare a b
    let jumps := fun (j : Instr) (c : Prop) => JumpsWhen j t c d t.regs.cx
    jumps (.jb d) (a.toNat < b.toNat) ∧ jumps (.jnb d) (b.toNat ≤ a.toNat)
      ∧ jumps (.jbe d) (a.toNat ≤ b.toNat) ∧ jumps (.jnbe d) (b.toNat < a.toNat)
      ∧ jumps (.jl d) (a.toInt < b.toInt) ∧ jumps (.jnl d) (b.toInt ≤ a.toInt)
      ∧ jumps (.jle d) (a.toInt ≤ b.toInt) ∧ jumps (.jnle d) (b.toInt < a.toInt)
      ∧ jumps (.je d) (a = b) ∧ jumps (.jne d) (a ≠ b) := by
  intro t jumps
  have cf : t.flags.cf = decide (a.toNat < b.toNat) := s.flags.sub_cf a b
  have zf : t.flags.zf = decide (a = b) := s.flags.sub_zf a b
  have less : (t.flags.sf != t.flags.oF) = decide (a.toInt < b.toInt) := s.flags.sub_sf_bne_oF a b
  have notLess : (t.flags.sf == t.flags.oF) = !decide (a.toInt < b.toInt) := by rw [← less, bne, Bool.not_not]
  have eqNat : a = b ↔ a.toNat = b.toNat := BitVec.toNat_inj.symm
  have eqInt : a = b ↔ a.toInt = b.toInt := BitVec.toInt_inj.symm
  exact ⟨State.jumpIf_jumpsWhen rfl (by simp [cf]),
    State.jumpIf_jumpsWhen rfl (by simp [cf]),
    State.jumpIf_jumpsWhen rfl (by simp [cf, zf, eqNat]; omega),
    State.jumpIf_jumpsWhen rfl (by simp [cf, zf, eqNat]; omega),
    State.jumpIf_jumpsWhen rfl (by simp [less]),
    State.jumpIf_jumpsWhen rfl (by simp [notLess]),
    State.jumpIf_jumpsWhen rfl (by simp [less, zf, eqInt]; omega),
    State.jumpIf_jumpsWhen rfl (by simp [notLess, zf, eqInt]; omega),
    State.jumpIf_jumpsWhen rfl (by simp [zf]),
    State.jumpIf_jumpsWhen rfl (by simp [zf])⟩

/-- Settles O38: every form of CMP is a comparison of its two operands, after which the ten jumps read their relation. -/
theorem conditionsAfterCompare : Obligations.ConditionsAfterCompare := by
  intro s
  exact ⟨fun w rm reg => ⟨_, rfl, State.compare_jumps _ _ _⟩, fun w rm reg => ⟨_, rfl, State.compare_jumps _ _ _⟩,
    fun v rm => ⟨_, rfl, State.compare_jumps _ _ _⟩, fun v rm => ⟨_, rfl, State.compare_jumps _ _ _⟩,
    fun v rm => ⟨_, rfl, State.compare_jumps _ _ _⟩, fun v rm => ⟨_, rfl, State.compare_jumps _ _ _⟩,
    fun v => ⟨_, rfl, State.compare_jumps _ _ _⟩, fun v => ⟨_, rfl, State.compare_jumps _ _ _⟩⟩

end Sys2Proof.Machine
end

section
/-! General registers and segment loads (10_state.md rules R22, R26 and R39). -/

namespace Sys2Proof.Machine

/-! ## Registers and their halves -/

theorem Regs.get8_set8_ite (g : Regs) (r q : Reg) (v : Byte) :
    (g.set8 r v).get8 q = if q = r then v else g.get8 q := by
  split
  · next same => rw [same, Regs.get8_set8]
  · next other => exact Regs.get8_set8_ne g v other

theorem Regs.get16_set16_ite (g : Regs) (r q : Reg) (v : Word) :
    (g.set16 r v).get16 q = if q = r then v else g.get16 q := by
  split
  · next same => rw [same, Regs.get16_set16]
  · next other => exact Regs.get16_set16_ne g v other

/-- Settles O13: a register reads as it was written, and no other register is written. -/
theorem byteRegistersAreHalves : Obligations.ByteRegistersAreHalves := by
  intro g v
  refine ⟨rfl, rfl, rfl, rfl, rfl, rfl, rfl, rfl, fun r q => ?_⟩
  obtain ⟨sp, bp, si, di⟩ := g.set8_pointers r v
  exact ⟨g.get8_set8_ite r q v, sp, bp, si, di, fun x => g.get16_set16_ite r q x⟩

/-! ## Loads of a segment register -/

/-- From `s` to `t` the segment register `sr` is loaded with `v`, SP becomes `sp`, a load of SS opens the inhibit
window, and nothing else a program can see changes. -/
def SegLoaded (s t : State) (sr : SReg) (v sp : Word) : Prop :=
  t.segs.get sr = v ∧ (∀ g, g ≠ sr → t.segs.get g = s.segs.get g)
    ∧ t.latches.inhibit = (decide (sr = .ss) || s.latches.inhibit)
    ∧ t.latches.nmiPending = s.latches.nmiPending ∧ t.latches.halted = s.latches.halted
    ∧ t.regs.sp = sp ∧ SameRegsBut [.spAh] s t ∧ t.ip = s.ip ∧ t.flags = s.flags ∧ SameBytesOutside [] s t
    ∧ t.pre = s.pre ∧ t.env = s.env

theorem State.setReg16_sameRegsBut (s : State) (r : Reg) (v : Word) : SameRegsBut [r] s (s.setReg16 r v) :=
  fun _ hq => Regs.get16_set16_ne s.regs v (by simpa using hq)

theorem State.setSeg_segLoaded (s : State) {sr : SReg} (notSs : sr ≠ .ss) (v sp : Word) :
    SegLoaded s ((s.setReg16 .spAh sp).setSeg sr v) sr v sp :=
  ⟨Segs.get_set _ _ _, fun _ other => Segs.get_set_ne _ _ other, by simp [notSs], rfl, rfl, rfl,
    s.setReg16_sameRegsBut .spAh sp, rfl, rfl, fun _ _ => rfl, rfl, rfl⟩

theorem State.loadSs_segLoaded (s : State) (v sp : Word) :
    SegLoaded s ((s.setReg16 .spAh sp).loadSs v) .ss v sp :=
  ⟨Segs.get_set s.segs .ss v, fun _ other => Segs.get_set_ne s.segs v other, by simp [State.loadSs], rfl, rfl, rfl,
    s.setReg16_sameRegsBut .spAh sp, rfl, rfl, fun _ _ => rfl, rfl, rfl⟩

/-- So MOV, which leaves SP, is the case of a load in which SP takes its own value. -/
theorem State.setReg16_sp_self (s : State) : s.setReg16 .spAh s.regs.sp = s := rfl

theorem State.stackWord_zero (s : State) : s.stackWord 0 = s.top16 := by
  simp [State.stackWord, State.top16]

/-- Settles O15: on a plain machine MOV writes the segment register only, and POP writes SP beside it. -/
theorem segmentLoads : Obligations.SegmentLoads := by
  intro s plain loads
  have moved : ∀ rm, s.afterRm .word rm = s.setReg16 .spAh s.regs.sp := fun rm => by
    rw [State.afterRm_plain plain, State.setReg16_sp_self]
  have popped : s.drop16 = s.setReg16 .spAh (s.regs.sp + 2) := State.drop16_plain plain
  rw [State.stackWord_zero]
  refine ⟨fun rm => ⟨_, rfl, ?_⟩, fun rm => ⟨_, rfl, ?_⟩, fun rm => ⟨_, rfl, ?_⟩, ⟨_, rfl, ?_⟩, ⟨_, rfl, ?_⟩,
    ⟨_, rfl, ?_⟩⟩
  · rw [moved]; exact s.setSeg_segLoaded (by decide) _ _
  · rw [moved]; exact s.loadSs_segLoaded _ _
  · rw [moved]; exact s.setSeg_segLoaded (by decide) _ _
  · rw [popped]; exact s.setSeg_segLoaded (by decide) _ _
  · rw [popped]; exact s.loadSs_segLoaded _ _
  · rw [popped]; exact s.setSeg_segLoaded (by decide) _ _

end Sys2Proof.Machine
end

section
/-! The step that fetches (30_encoding.md rules R81 and R98, 10_state.md rule R28): what the fetch window holds, what
the fetch leaves, and which way the step goes on from it. -/

namespace Sys2Proof.Machine

/-! ## What a fetch sees -/

/-- With no stored byte that may be queued, a fetch from RAM or ROM sees memory as it is. -/
theorem State.fetchByte_memory {s : State} {a : Nat} (noStale : s.stale = [])
    (memory : s.kindAt a = .ram ∨ s.kindAt a = .rom) (k : Nat) : s.fetchByte a k = s.byteAt a := by
  have seen : s.fetchMemory a k = s.byteAt a := by simp [State.fetchMemory, State.fetchChoices, noStale]
  rcases memory with ram | rom
  · simp only [State.fetchByte, ram, seen]
  · simp only [State.fetchByte, rom, seen]

/-! ## What a fetch leaves -/

section
variable (s : State)
@[simp] theorem State.beginInstr_regs : s.beginInstr.regs = s.regs := by unfold State.beginInstr; split <;> rfl
@[simp] theorem State.beginInstr_segs : s.beginInstr.segs = s.segs := by unfold State.beginInstr; split <;> rfl
@[simp] theorem State.beginInstr_ip : s.beginInstr.ip = s.ip := by unfold State.beginInstr; split <;> rfl
@[simp] theorem State.beginInstr_flags : s.beginInstr.flags = s.flags := by unfold State.beginInstr; split <;> rfl
@[simp] theorem State.beginInstr_mem : s.beginInstr.mem = s.mem := by unfold State.beginInstr; split <;> rfl
@[simp] theorem State.beginInstr_pre : s.beginInstr.pre = s.pre := by unfold State.beginInstr; split <;> rfl
@[simp] theorem State.beginInstr_latches : s.beginInstr.latches = s.latches := by unfold State.beginInstr; split <;> rfl
@[simp] theorem State.beginInstr_env : s.beginInstr.env = s.env := by unfold State.beginInstr; split <;> rfl

@[simp] theorem State.beginInstr_mid : s.beginInstr.progress.mid = true := by
  unfold State.beginInstr
  split
  · next mid => exact mid
  · rfl
@[simp] theorem State.beginInstr_freshReset : s.beginInstr.progress.freshReset = s.progress.freshReset := by
  unfold State.beginInstr; split <;> rfl

/-- At its first byte an instruction is entered with its address and the TF it starts with. -/
theorem State.beginInstr_progress (first : s.progress.mid = false) :
    s.beginInstr.progress = { s.progress with mid := true, instrIp := s.ip, t0 := s.flags.tf } := by
  simp [State.beginInstr, first]
end

section
variable (s : State) (n : Nat)
@[simp] theorem State.fetched_ip : (s.fetched n).ip = s.ip + BitVec.ofNat 16 n := by simp [State.fetched, State.advance]
@[simp] theorem State.fetched_regs : (s.fetched n).regs = s.regs := by simp [State.fetched, State.advance]
@[simp] theorem State.fetched_segs : (s.fetched n).segs = s.segs := by simp [State.fetched, State.advance]
@[simp] theorem State.fetched_flags : (s.fetched n).flags = s.flags := by simp [State.fetched, State.advance]
@[simp] theorem State.fetched_pre : (s.fetched n).pre = s.pre := by simp [State.fetched, State.advance]
@[simp] theorem State.fetched_latches : (s.fetched n).latches = s.latches := by simp [State.fetched, State.advance]
theorem State.fetched_progress :
    (s.fetched n).progress = (s.setProgress { s.progress with freshReset := false }).beginInstr.progress := by
  simp [State.fetched, State.advance]
@[simp] theorem State.fetched_mid : (s.fetched n).progress.mid = true := by simp [State.fetched_progress]
@[simp] theorem State.fetched_freshReset : (s.fetched n).progress.freshReset = false := by simp [State.fetched_progress]

theorem State.gap_of_noneWaiting (alone : s.env.waiting = []) : s.gap = s := by
  unfold State.gap
  rw [alone]
  exact ite_self s

/-- Where no other master waits, the gap after the fetch adds nothing to it. -/
theorem State.fetched_of_noneWaiting (alone : s.env.waiting = []) :
    s.fetched n = (s.setProgress { s.progress with freshReset := false }).beginInstr.advance n :=
  State.gap_of_noneWaiting _ (by simpa [State.advance] using alone)
end

/-! ## The step from the fetch on -/

theorem runInstr_prefixByte {i : Instr} (isPrefix : isPrefixByte i = true) (s : State) : runInstr i s = exec i s := by
  simp [runInstr, isPrefix]

theorem runInstr_allowed {i : Instr} {s : State} (noPrefix : isPrefixByte i = false)
    (allowed : s.pre.rep = none ∨ isStringPrimitive i = true) : runInstr i s = completeAnswer (exec i s) := by
  rcases allowed with noRepeat | isString
  · simp [runInstr, noPrefix, noRepeat]
  · simp [runInstr, noPrefix, isString]

theorem State.turn_of_decode {s : State} {i : Instr} {n : Nat} (awake : s.latches.halted = false)
    (noTurn : s.progress.repeating = none) (decoded : decode s.fetchWindow = .ok (i, n)) :
    s.turn = runInstr i (s.beginInstr.advance n).gap := by
  simp [State.turn, awake, noTurn, State.fetchAndRun, decoded]

/-- A CPU that is awake with no turn left to run fetches; the first fetch after a reset is no exception unless an NMI
came before it (70_reset_and_hazards.md rule R391). -/
theorem step_of_decode (s : State) {i : Instr} {n : Nat} (awake : s.takeInputs.latches.halted = false)
    (noTurn : s.takeInputs.progress.repeating = none)
    (noEarlyNmi : s.takeInputs.progress.freshReset = true → s.takeInputs.latches.nmiPending = false)
    (decoded : decode s.takeInputs.fetchWindow = .ok (i, n)) :
    step s = finishAnswer (runInstr i (s.takeInputs.fetched n)) := by
  unfold step cycle
  generalize s.takeInputs = u at *
  have run : (u.setProgress { u.progress with freshReset := false }).turn = runInstr i (u.fetched n) :=
    State.turn_of_decode (by simpa using awake) (by simpa using noTurn) (by simpa using decoded)
  rw [← run]
  congr 1
  split
  · next fresh => simp [State.firstTurn, noEarlyNmi fresh]
  · next old => rw [← Bool.eq_false_iff.2 old]; rfl

/-- Settles O5: the step runs what the fetch decodes, with a boundary after all but the bytes of the prefixes. -/
theorem stepRunsDecoded : Obligations.StepRunsDecoded := by
  intro s i n u awake noTurn noEarlyNmi decoded
  have runs := step_of_decode s awake noTurn noEarlyNmi decoded
  refine ⟨fun noStale memory => ?_, fun isPrefix => ?_, fun noPrefix allowed => ?_, u.fetched_ip n, u.fetched_regs n,
    u.fetched_segs n, u.fetched_flags n, u.fetched_pre n, u.fetched_latches n, u.fetched_mid n, u.fetched_freshReset n,
    fun alone => ?_, fun first => ?_, fun t alone uncut => ?_⟩
  · exact List.map_congr_left fun k _ => State.fetchByte_memory noStale (memory _) _
  · rw [runs, runInstr_prefixByte isPrefix]
  · rw [runs, runInstr_allowed noPrefix (by rwa [u.fetched_pre])]
  · rw [u.fetched_of_noneWaiting n alone]; simp [State.advance]
  · have begun := State.beginInstr_progress (u.setProgress { u.progress with freshReset := false }) first
    rw [u.fetched_progress, begun]; exact ⟨rfl, rfl⟩
  · show Host.Outcome.next t.finish = _
    rw [State.finish_plain alone uncut]

end Sys2Proof.Machine
end

section
/-! Who writes CS and the control flags TF, IF and DF (10_state.md rules R26, R31 and R33). Both statements rest on one
case split: every instruction but the few that rules R26 and R31 name keeps all four (`exec_sameMode`). -/

namespace Sys2Proof.Machine

/-! ## The control flags -/

/-- TF, IF and DF (10_state.md rule R29). -/
def Flags.control (f : Flags) : Bool × Bool × Bool := (f.tf, f.iF, f.df)

theorem Flags.control_eq_iff {f g : Flags} : f.control = g.control ↔ f.tf = g.tf ∧ f.iF = g.iF ∧ f.df = g.df := by
  simp [Flags.control]

section
variable (f : Flags)
@[simp] theorem Flags.szp_control {n : Nat} (r : BitVec n) : (f.szp r).control = f.control := by
  simp [Flags.control, Flags.szp]
@[simp] theorem Flags.add_control {n : Nat} (a b : BitVec n) (c : Bool) : (f.add a b c).control = f.control := by
  simp [Flags.control, Flags.add, Flags.szp]
@[simp] theorem Flags.sub_control {n : Nat} (a b : BitVec n) (c : Bool) : (f.sub a b c).control = f.control := by
  simp [Flags.control, Flags.sub, Flags.szp]
@[simp] theorem Flags.logic_control {n : Nat} (r : BitVec n) : (f.logic r).control = f.control := by
  simp [Flags.control, Flags.logic, Flags.szp]
@[simp] theorem Flags.keepCarry_control (g : Flags) : (f.keepCarry g).control = g.control := rfl
@[simp] theorem Flags.setCarryOverflow_control (b : Bool) : (f.setCarryOverflow b).control = f.control := rfl
@[simp] theorem Flags.setAdjust_control (a c : Bool) : (f.setAdjust a c).control = f.control := rfl
@[simp] theorem Flags.loadLow_control (v : Byte) : (f.loadLow v).control = f.control := rfl
@[simp] theorem Flags.setCf_control (b : Bool) : Flags.control { f with cf := b } = f.control := rfl
@[simp] theorem shiftFlags_control {n : Nat} (op : ShiftOp) (count : Nat) (x0 : BitVec n) (x : BitVec n × Bool) :
    (shiftFlags op count f x0 x).control = f.control := by cases op <;> rfl
end

/-! ## CS and the control flags under each shared operation -/

/-- CS and the control flags are as before. -/
structure SameMode (s t : State) : Prop where
  cs : t.segs.cs = s.segs.cs
  control : t.flags.control = s.flags.control

theorem SameMode.trans {s t u : State} (h : SameMode s t) (k : SameMode t u) : SameMode s u :=
  ⟨k.cs.trans h.cs, k.control.trans h.control⟩

theorem BusOnly.sameMode {s t : State} (h : BusOnly s t) : SameMode s t := ⟨by rw [h.segs], by rw [h.flags]⟩

section
variable (s : State)

@[simp] theorem State.undefine_flags_control (ns : List StatusFlag) : (s.undefine ns).flags.control = s.flags.control :=
  Flags.control_eq_iff.2 (s.undefine_control ns)

@[simp] theorem State.compare_flags_control {n : Nat} (a b : BitVec n) :
    (s.compare a b).flags.control = s.flags.control := by simp [State.compare]

@[simp] theorem State.logicFlags_flags_control {n : Nat} (r : BitVec n) :
    (s.logicFlags r).flags.control = s.flags.control := by simp [State.logicFlags]

theorem State.addTo_sameMode (w : Width) (rm dst : Rm) (b : BitVec w.bits) (c : Bool) :
    SameMode s (s.addTo w rm dst b c) := ⟨by simp, by simp [State.addTo]⟩
theorem State.subFrom_sameMode (w : Width) (rm dst : Rm) (b : BitVec w.bits) (c : Bool) :
    SameMode s (s.subFrom w rm dst b c) := ⟨by simp, by simp [State.subFrom]⟩
theorem State.increment_sameMode (w : Width) (dst : Rm) : SameMode s (s.increment w dst) :=
  ⟨by simp, by simp [State.increment]⟩
theorem State.decrement_sameMode (w : Width) (dst : Rm) : SameMode s (s.decrement w dst) :=
  ⟨by simp, by simp [State.decrement]⟩
theorem State.compare_sameMode {n : Nat} (a b : BitVec n) : SameMode s (s.compare a b) := ⟨by simp, by simp⟩
theorem State.logicTo_sameMode (w : Width) (rm dst : Rm) (r : BitVec w.bits) : SameMode s (s.logicTo w rm dst r) :=
  ⟨by simp, by simp [State.logicTo]⟩
theorem State.shift_sameMode (op : ShiftOp) (w : Width) (v : Count) (rm : Rm) : SameMode s (s.shift op w v rm) := by
  refine ⟨by simp, ?_⟩
  unfold State.shift
  split <;> simp
theorem State.loopCount_sameMode : SameMode s s.loopCount := ⟨rfl, rfl⟩
theorem State.setLatches_sameMode (l : Latches) : SameMode s (s.setLatches l) := ⟨rfl, rfl⟩
theorem State.loadSs_sameMode (v : Word) : SameMode s (s.loadSs v) := ⟨rfl, rfl⟩
theorem State.inPort_sameMode (w : Width) (port : Word) : SameMode s (s.inPort w port) :=
  ⟨by simp [State.inPort], by simp [State.inPort]⟩
theorem State.jumpIf_sameMode (c : Bool) (d : Byte) : SameMode s (s.jumpIf c d) := ⟨by simp, by simp⟩

/-- A turn of a string instruction keeps what its element keeps. -/
theorem State.stringTurn_sameMode {p : InProgress} {compares : Bool} {element : State → State}
    (kept : SameMode s (element s)) : SameMode s (s.stringTurn p compares element) := by
  unfold State.stringTurn
  split
  · exact ⟨kept.cs, kept.control⟩
  split
  · exact ⟨rfl, rfl⟩
  split
  · exact ⟨kept.cs, kept.control⟩
  · exact ⟨kept.cs, kept.control⟩
end

/-! ## Every instruction -/

/-- The instructions of 10_state.md rules R26 and R31: those that may write CS, by a far transfer or an interrupt entry,
and those that are there to write a control flag. -/
def mayWriteMode (i : Instr) : Bool :=
  match i with
  | .jmpFar .. | .jmpFarMem .. | .callFar .. | .callFarMem .. | .retFar | .retFarImm .. | .int .. | .int3 | .into
  | .iret | .div .. | .idiv .. | .popf | .cld | .std | .cli | .sti => true
  | _ => false

/-- Every other instruction keeps CS and the control flags. -/
theorem exec_sameMode (s : State) (i : Instr) (other : mayWriteMode i = false) : Completes i s (SameMode s) := by
  cases i with
  | jmpFar | jmpFarMem | callFar | callFarMem | retFar | retFarImm | int | int3 | into | iret | div | idiv | popf | cld
  | std | cli | sti => cases other
  | addRmReg | addRmImm | addAccImm | adcRmReg | adcRmImm | adcAccImm => exact ⟨_, rfl, s.addTo_sameMode _ _ _ _ _⟩
  | subRmReg | subRmImm | subAccImm | sbbRmReg | sbbRmImm | sbbAccImm => exact ⟨_, rfl, s.subFrom_sameMode _ _ _ _ _⟩
  | cmpRmReg | cmpRmImm => exact ⟨_, rfl, (s.afterRm_busOnly _ _).sameMode.trans (State.compare_sameMode _ _ _)⟩
  | cmpAccImm => exact ⟨_, rfl, s.compare_sameMode _ _⟩
  | orRmReg | orRmImm | orAccImm | andRmReg | andRmImm | andAccImm | xorRmReg | xorRmImm | xorAccImm =>
    exact ⟨_, rfl, s.logicTo_sameMode _ _ _ _⟩
  | incR16 | incRm => exact ⟨_, rfl, s.increment_sameMode _ _⟩
  | decR16 | decRm => exact ⟨_, rfl, s.decrement_sameMode _ _⟩
  | rol | ror | rcl | rcr | shl | shr | sar => exact ⟨_, rfl, s.shift_sameMode _ _ _ _⟩
  | jo | jno | jb | jnb | je | jne | jbe | jnbe | js | jns | jp | jnp | jl | jnl | jle | jnle | jcxz =>
    exact ⟨_, rfl, s.jumpIf_sameMode _ _⟩
  | loop | loopz | loopnz => exact ⟨_, rfl, s.loopCount_sameMode.trans (State.jumpIf_sameMode _ _ _)⟩
  | movs => exact ⟨_, rfl, s.stringTurn_sameMode ⟨by simp [State.movsElement], by simp [State.movsElement]⟩⟩
  | cmps => exact ⟨_, rfl, s.stringTurn_sameMode ⟨by simp [State.cmpsElement], by simp [State.cmpsElement]⟩⟩
  | scas => exact ⟨_, rfl, s.stringTurn_sameMode ⟨by simp [State.scasElement], by simp [State.scasElement]⟩⟩
  | lods => exact ⟨_, rfl, s.stringTurn_sameMode ⟨by simp [State.lodsElement], by simp [State.lodsElement]⟩⟩
  | stos => exact ⟨_, rfl, s.stringTurn_sameMode ⟨by simp [State.stosElement], by simp [State.stosElement]⟩⟩
  | movSsRm => exact ⟨_, rfl, (s.afterRm_busOnly _ _).sameMode.trans (State.loadSs_sameMode _ _)⟩
  | popSs => exact ⟨_, rfl, by simp [State.loadSs, Segs.set], by simp [State.loadSs]⟩
  | movEsRm | movDsRm | popEs | popDs | lds | les => exact ⟨_, rfl, by simp [Segs.set], by simp⟩
  | inImm | inDx => exact ⟨_, rfl, s.inPort_sameMode _ _⟩
  | pushRm rm => cases rm <;> exact ⟨_, rfl, by simp, by simp⟩
  | esc op rm =>
    cases rm with
    | reg r => exact ⟨_, rfl, rfl, rfl⟩
    | mem m =>
      exact ⟨_, rfl, ((s.afterRm_busOnly _ _).trans (State.busCycle_busOnly _ _ fun u => u.log_busOnly _)).sameMode⟩
  | hlt =>
    exact ⟨_, rfl, (s.setLatches_sameMode _).trans (State.busCycle_busOnly _ _ fun u => u.log_busOnly _).sameMode⟩
  | wait =>
    refine ⟨_, rfl, ?_⟩
    split <;> exact ⟨rfl, rfl⟩
  | testRmReg | testRmImm | testAccImm | neg | not | daa | das | aaa | aas | aam | aad | mul | imul =>
    exact ⟨_, rfl, by simp, by simp⟩
  | cbw | cwd | lea | lahf | xchgAxCx | xchgAxDxBx | xchgAxIndex | movRegImm => exact ⟨_, rfl, rfl, rfl⟩
  | movRmReg | movRmImm | movRmSreg | movAccMem | movMemAcc | xlat | xchgRmReg => exact ⟨_, rfl, by simp, by simp⟩
  | pushR16 | pushSreg | pushf | popR16 | popRm | outImm | outDx => exact ⟨_, rfl, by simp, by simp⟩
  | callNear | callRm | jmpRm | retNear => exact ⟨_, rfl, by simp, by simp⟩
  | retNearImm => exact ⟨_, rfl, by simp [State.releaseStack], by simp [State.releaseStack]⟩
  | nop | seg | lock | repne | rep | jmpNear | jmpShort => exact ⟨_, rfl, rfl, rfl⟩
  | sahf | clc | cmc | stc => exact ⟨_, rfl, by simp, by simp⟩

/-- An instruction has one next state. -/
theorem Completes.of_exec {i : Instr} {s t : State} {P : State → Prop} (h : Completes i s P)
    (answer : exec i s = .next t) : P t := by
  obtain ⟨u, hu, holds⟩ := h
  rwa [Host.Outcome.next.inj (answer.symm.trans hu)]

/-- Settles O48: of the instructions that may write CS or a control flag, each one that is not named keeps CS. -/
theorem csWrittenOnlyByFarTransfers : Obligations.CsWrittenOnlyByFarTransfers := by
  intro i s t answer
  by_cases mayWrite : mayWriteMode i = true
  case neg => exact .inl ((exec_sameMode s i (by simpa using mayWrite)).of_exec answer).cs
  cases i with
  | cld | std | cli | sti =>
    obtain rfl := Host.Outcome.next.inj answer
    exact .inl rfl
  | popf =>
    obtain rfl := Host.Outcome.next.inj answer
    exact .inl (by simp)
  | jmpFar | jmpFarMem | callFar | callFarMem | retFar | retFarImm | int | int3 | into | iret | div | idiv =>
    exact .inr (by simp)
  | _ => cases mayWrite

/-! ## The writers of a control flag -/

/-- TF and IF are not set where they were clear, and DF is as before. -/
structure NoFlagRaised (s t : State) : Prop where
  tf : t.flags.tf = true → s.flags.tf = true
  iF : t.flags.iF = true → s.flags.iF = true
  df : t.flags.df = s.flags.df

theorem NoFlagRaised.of_control {s t : State} (kept : t.flags.control = s.flags.control) : NoFlagRaised s t := by
  obtain ⟨tf, iF, df⟩ := Flags.control_eq_iff.1 kept
  exact ⟨fun set => tf ▸ set, fun set => iF ▸ set, df⟩

/-- An interrupt entry clears TF and IF (60_exceptions.md rule R365). -/
theorem NoFlagRaised.of_mask {s t : State} (masked : t.flags.control = s.flags.mask.control) : NoFlagRaised s t := by
  obtain ⟨tf, iF, df⟩ := Flags.control_eq_iff.1 masked
  exact ⟨fun set => (nomatch tf.symm.trans set), fun set => (nomatch iF.symm.trans set), df⟩

theorem Flags.mask_control_congr {f g : Flags} (same : f.control = g.control) : f.mask.control = g.mask.control := by
  obtain ⟨-, -, df⟩ := Flags.control_eq_iff.1 same
  exact Flags.control_eq_iff.2 ⟨rfl, rfl, df⟩

theorem State.divideError_flags_control (s : State) : s.divideError.flags.control = s.flags.mask.control := by
  simpa [State.divideError] using Flags.mask_control_congr (s.undefine_flags_control allStatus)

/-- The instructions of 10_state.md rule R31 that set TF or IF, or write DF. -/
def raisesFlag (i : Instr) : Bool :=
  match i with
  | .sti | .cld | .std | .popf | .iret => true
  | _ => false

/-- Every other instruction sets neither TF nor IF and keeps DF: a far transfer keeps all three flags, CLI clears one,
and an interrupt entry clears two. -/
theorem exec_noFlagRaised (s : State) (i : Instr) (other : raisesFlag i = false) : Completes i s (NoFlagRaised s) := by
  by_cases mayWrite : mayWriteMode i = true
  case neg =>
    obtain ⟨t, answer, kept⟩ := exec_sameMode s i (by simpa using mayWrite)
    exact ⟨t, answer, .of_control kept.control⟩
  cases i with
  | sti | cld | std | popf | iret => cases other
  | cli => exact ⟨_, rfl, id, fun set => (nomatch set), rfl⟩
  | jmpFar | jmpFarMem => exact ⟨_, rfl, .of_control (by simp)⟩
  | callFar | callFarMem => exact ⟨_, rfl, .of_control (by simp [State.pushFarReturn])⟩
  | retFar | retFarImm => exact ⟨_, rfl, .of_control (by simp [State.farReturn, State.releaseStack])⟩
  | int | int3 => exact ⟨_, rfl, .of_mask (by simp)⟩
  | into =>
    refine ⟨_, rfl, ?_⟩
    split
    · exact .of_mask (by simp)
    · exact .of_control rfl
  | div w rm | idiv w rm =>
    refine ⟨_, rfl, ?_⟩
    split
    · exact .of_mask (by simp [State.divideError_flags_control])
    · exact .of_control (by simp)
  | _ => cases mayWrite

/-- Settles O49: STI, CLD and STD write their own flag only, POPF and IRET load all three, and nothing else raises
one. -/
theorem controlFlagWriters : Obligations.ControlFlagWriters := by
  intro i s t answer
  by_cases raises : raisesFlag i = true
  case neg =>
    have kept := (exec_noFlagRaised s i (by simpa using raises)).of_exec answer
    exact ⟨fun clear set => (nomatch clear.symm.trans (kept.tf set)),
      fun clear set => (nomatch clear.symm.trans (kept.iF set)), fun changed => absurd kept.df changed⟩
  cases i with
  | popf | iret => simp
  | sti =>
    obtain rfl := Host.Outcome.next.inj answer
    exact ⟨fun clear set => (nomatch clear.symm.trans set), fun _ _ => .inl rfl, fun changed => absurd rfl changed⟩
  | cld | std =>
    obtain rfl := Host.Outcome.next.inj answer
    exact ⟨fun clear set => (nomatch clear.symm.trans set), fun clear set => (nomatch clear.symm.trans set), by simp⟩
  | _ => cases raises

end Sys2Proof.Machine
end

section
/-! Reset, and the bus that other masters share (10_state.md section 7, 20_memory.md rules R60, R70 and R71,
70_reset_and_hazards.md rules R390 and R409): what RESET leaves, where the writes of other masters wait and where they
are made, and what one of them does in the gap of a read-modify-write. -/

namespace Sys2Proof.Machine

/-! ## The end of a lock -/

/-- On a free bus the writes that waited are made, in their order. -/
theorem State.releaseBus_of_free {s : State} (free : s.busLocked = false) :
    s.releaseBus = (s.setEnv { s.env with waiting := [] }).masterWrites s.env.waiting.flatten := by
  simp [State.releaseBus, free]

theorem State.releaseBus_of_locked {s : State} (locked : s.busLocked = true) : s.releaseBus = s := by
  simp [State.releaseBus, locked]

theorem State.gap_of_locked {s : State} (locked : s.busLocked = true) : s.gap = s := by simp [State.gap, locked]

/-- On a free bus the gap goes to the master that waits first. -/
theorem State.gap_of_free {s : State} (free : s.busLocked = false) {ws : List MasterWrite}
    {rest : List (List MasterWrite)} (waits : s.env.waiting = ws :: rest) :
    s.gap = (s.setEnv { s.env with waiting := rest }).masterWrites ws := by
  simp [State.gap, free, waits]

/-! ## Reset -/

/-- A RESET event leaves no lock, so what it leaves is the reset state with the waiting writes made on it. -/
theorem State.applyEvent_reset (s : State) : s.applyEvent .reset
    = (s.resetCpu.setEnv { s.env with cut := none, waiting := [] }).masterWrites s.env.waiting.flatten :=
  State.releaseBus_of_free (s := s.resetCpu) rfl

/-- Settles O54: the writes that waited reach memory and the queue only. -/
theorem resetState : Obligations.ResetState := by
  refine ⟨rfl, rfl, by decide, rfl, rfl, rfl, rfl, rfl, fun s => ?_⟩
  rw [State.applyEvent_reset]
  simp only [State.masterWrites_segs, State.masterWrites_ip, State.masterWrites_flags, State.masterWrites_latches,
    State.masterWrites_pre, State.masterWrites_progress, State.masterWrites_env]
  refine ⟨rfl, rfl, rfl, rfl, rfl, rfl, rfl, rfl, rfl, rfl, rfl, fun noneWaits => ?_⟩
  rw [noneWaits]
  exact ⟨rfl, rfl, rfl⟩

/-! ## Writes of other masters as events of the host -/

/-- On a locked bus every write is put off, each in its place. -/
theorem State.applyEvents_busWrite_of_locked {s : State} (locked : s.busLocked = true) (ws : List MasterWrite) :
    (ws.map HostEvent.busWrite).foldl State.applyEvent s
      = s.setEnv { s.env with waiting := s.env.waiting ++ ws.map fun w => [w] } := by
  induction ws generalizing s with
  | nil => simp [State.setEnv]
  | cons w ws ih =>
    have putOff : s.applyEvent (.busWrite w) = s.putOff [w] := by simp [State.applyEvent, locked]
    rw [List.map_cons, List.foldl_cons, putOff, ih (s := s.putOff [w]) locked]
    simp [State.putOff, State.setEnv]

/-- On a free bus every write is made at once. -/
theorem State.applyEvents_busWrite_of_free {s : State} (free : s.busLocked = false) (ws : List MasterWrite) :
    (ws.map HostEvent.busWrite).foldl State.applyEvent s = s.masterWrites ws := by
  induction ws generalizing s with
  | nil => rfl
  | cons w ws ih =>
    have made : s.applyEvent (.busWrite w) = s.store w.addr.toNat w.value := by
      simp [State.applyEvent, free, State.masterWrites]
    have stillFree : (s.store w.addr.toNat w.value).busLocked = false :=
      (s.store_busOnly _ _).busLocked.trans free
    rw [List.map_cons, List.foldl_cons, made, ih stillFree]
    rfl

theorem State.takeInputs_cons {s : State} {es : List HostEvent} {rest : List (List HostEvent)}
    (scripted : s.env.inputs = es :: rest) :
    s.takeInputs = es.foldl State.applyEvent (s.setEnv { s.env with inputs := rest }) := by
  simp [State.takeInputs, scripted]

/-- Settles O56: with LOCK in force the bus is locked in maximum mode and free in minimum mode, and without it the
bus is free in either. -/
theorem lockHoldsOffBusMasters : Obligations.LockHoldsOffBusMasters := by
  intro s ws rest lock scripted
  rw [State.takeInputs_cons scripted]
  refine ⟨fun maxMode => ?_, fun minMode => ?_, fun maxMode => ?_, fun p unlocked => ?_⟩
  · rw [State.applyEvents_busWrite_of_locked (by simp [State.busLocked, lock, maxMode])]
    exact ⟨rfl, rfl⟩
  · exact State.applyEvents_busWrite_of_free (by simp [State.busLocked, minMode]) ws
  · have locked : s.busLocked = true := by simp [State.busLocked, lock, maxMode]
    exact ⟨State.gap_of_locked locked, State.releaseBus_of_locked locked⟩
  · exact State.releaseBus_of_free (by simp [State.busLocked, unlocked])

/-! ## The gap of a read-modify-write -/

theorem State.busCycle_uncut {s : State} (uncut : s.env.cut = none) (f : State → State) : s.busCycle f = f s := by
  simp [State.busCycle, uncut]

section
variable {s : State} {m : MemRef} {a : Nat}

theorem State.readRm_byte_ram (operand : a = phys (s.memSeg m) (s.memOff m)) (ram : s.kindAt a = .ram) :
    s.readRm .byte (.mem m) = s.byteAt a := by
  show s.busByte (phys (s.memSeg m) (s.memOff m)) = _
  rw [← operand]
  simp only [State.busByte, ram]

theorem State.afterRm_byte_ram (operand : a = phys (s.memSeg m) (s.memOff m)) (ram : s.kindAt a = .ram) :
    s.afterRm .byte (.mem m) = s.gap := by
  show (s.afterRead (phys (s.memSeg m) (s.memOff m))).gap = _
  rw [← operand]
  simp only [State.afterRead, ram]

theorem State.writeByte_ram {v : Byte} (ram : s.kindAt a = .ram) (uncut : s.env.cut = none) :
    s.writeByte a v = s.store a v := by
  simp [State.writeByte, State.busCycle_uncut uncut, ram]

/-- A byte operand in RAM read and then written: other masters have the gap after the read and the gap after the
write. -/
theorem State.readModifyWrite_byte_ram (operand : a = phys (s.memSeg m) (s.memOff m)) (ram : s.kindAt a = .ram)
    (uncut : s.env.cut = none) (v : Byte) :
    (s.afterRm .byte (.mem m)).writeRm .byte (.mem m) v = (s.gap.store a v).gap := by
  have sameOperand : phys (s.gap.memSeg m) (s.gap.memOff m) = a := by
    simp [operand, State.memSeg, State.segFor, State.memOff]
  have ram' : s.gap.kindAt a = .ram := (s.gap_busOnly.kindAt a).trans ram
  have uncut' : s.gap.env.cut = none := by
    have := s.gap_cutSome
    rwa [uncut, Option.isSome_none, Option.isSome_eq_false_iff, Option.isNone_iff_eq_none] at this
  rw [State.afterRm_byte_ram operand ram]
  show (s.gap.writeByte (phys (s.gap.memSeg m) (s.gap.memOff m)) v).gap = _
  rw [sameOperand, State.writeByte_ram ram' uncut']

end

/-- From `s` to `t` the byte at `a` becomes `v`, no other byte moves, and the host's side becomes `e`. -/
structure ByteReplaced (a : Nat) (v : Byte) (e : Env) (s t : State) : Prop where
  byte : t.byteAt a = v
  env : t.env = e
  bytes : SameBytesOutside [a] s t

/-- A store after a gap in which only the byte stored to was written, with nobody left to take the gap after it. -/
theorem State.gap_store_gap_byteReplaced {s : State} {a : Nat} {v : Byte} (ram : s.kindAt a = .ram)
    (sameBytes : SameBytesOutside [a] s s.gap) (gapClosed : (s.gap.store a v).gap = s.gap.store a v) :
    ByteReplaced a v s.gap.env s (s.gap.store a v).gap := by
  rw [gapClosed]
  refine ⟨State.byteAt_store_same _ _ _ ((s.gap_busOnly.kindAt a).trans ram), s.gap.store_env a v, fun b hb => ?_⟩
  have outside : b ≠ a ∨ s.gap.kindAt b ≠ .ram := by simpa [s.gap_busOnly.kindAt b] using hb
  exact (State.byteAt_store_other _ _ _ _ outside).trans (sameBytes b hb)

/-- INC and XCHG of a byte of RAM, where read and write of the operand come down to the replacement of one byte: they
write what they make of the byte they read. -/
theorem exec_readModifyWrite_byte {s : State} {m : MemRef} {a : Nat} {e : Env} (reg : Reg)
    (operand : a = phys (s.memSeg m) (s.memOff m)) (ram : s.kindAt a = .ram)
    (replaced : ∀ v, ByteReplaced a v e s ((s.afterRm .byte (.mem m)).writeRm .byte (.mem m) v)) :
    (Completes (.incRm .byte (.mem m)) s fun t =>
        t.byteAt a = s.byteAt a + 1 ∧ t.env = e ∧ SameBytesOutside [a] s t)
      ∧ Completes (.xchgRmReg .byte (.mem m) reg) s fun t =>
        t.regs.get8 reg = s.byteAt a ∧ t.byteAt a = s.regs.get8 reg ∧ t.env = e ∧ SameBytesOutside [a] s t := by
  have read := State.readRm_byte_ram operand ram
  refine ⟨⟨_, rfl, ?_⟩, ⟨_, rfl, ?_⟩⟩
  · obtain ⟨byte, env, bytes⟩ := replaced (addResult (s.readRm .byte (.mem m)) 1#8 false)
    have successor : addResult (s.readRm .byte (.mem m)) 1#8 false = s.byteAt a + 1 := by
      apply BitVec.eq_of_toNat_eq
      simp [addResult, read]
    exact ⟨byte.trans successor, env, bytes⟩
  · obtain ⟨byte, env, bytes⟩ := replaced (s.regs.get8 reg)
    exact ⟨(Regs.get8_set8 _ reg _).trans read, byte, env, bytes⟩

/-- Settles O57: locked, both gaps stay closed; unlocked, the one master that waits has the gap after the read, and the
byte it writes there is the byte the instruction then overwrites. -/
theorem busMasterGap : Obligations.BusMasterGap := by
  intro s m reg w rest operand ram uncut waits a
  have replaced : ∀ v, SameBytesOutside [a] s s.gap → (s.gap.store a v).gap = s.gap.store a v →
      ByteReplaced a v s.gap.env s ((s.afterRm .byte (.mem m)).writeRm .byte (.mem m) v) := by
    intro v sameBytes gapClosed
    rw [State.readModifyWrite_byte_ram operand ram uncut]
    exact State.gap_store_gap_byteReplaced ram sameBytes gapClosed
  refine ⟨fun locked => ?_, fun free nobodyElse => ?_⟩
  · have noGap : s.gap = s := State.gap_of_locked locked
    rw [noGap] at replaced
    exact exec_readModifyWrite_byte reg operand ram fun v =>
      replaced v (fun _ _ => rfl) (State.gap_of_locked ((s.store_busOnly a v).busLocked.trans locked))
  · subst nobodyElse
    have taken : s.gap = (s.setEnv { s.env with waiting := [] }).store a w.value := State.gap_of_free free waits
    have env : s.gap.env = { s.env with waiting := [] } := by rw [taken, State.store_env]; rfl
    have sameBytes : SameBytesOutside [a] s s.gap := fun b hb => by
      rw [taken]
      exact State.byteAt_store_other _ a b _ (hb.imp_left (by simpa using ·))
    rw [env] at replaced
    refine ⟨⟨?_, env⟩, exec_readModifyWrite_byte reg operand ram fun v => replaced v sameBytes ?_⟩
    · rw [taken]
      exact State.byteAt_store_same _ _ _ ram
    · exact State.gap_of_noneWaiting _ (by rw [State.store_env, env])

end Sys2Proof.Machine
end

section
/-! Words in memory, and bytes that may be queued (20_memory.md rules R55 to R59, R75 and R76; 92_eei_decisions.md D2, D3
and D19). -/

namespace Sys2Proof.Machine

/-! ## Words in memory -/

/-- The high byte of a word is at the next offset modulo 2^16 (92_eei_decisions.md D3). -/
theorem phys_succ (sg off : Word) :
    phys sg (off + 1) = (sg.toNat * 16 + (off.toNat + 1) % 2 ^ 16) % 2 ^ 20 := by
  simp [phys, BitVec.toNat_add]

/-- Settles O11: a word is its two bytes, stored one after the other. -/
theorem wordAccessLittleEndian : Obligations.WordAccessLittleEndian := by
  intro s sg off v plain lo hi t
  have atLo : phys sg off = lo := rfl
  have atHi : phys sg (off + 1) = hi := phys_succ sg off
  have bytes : accessBytes sg off .word = [lo, hi] := by rw [← atHi]; rfl
  have read : ∀ u : State, Plain u → u.readSeg sg off .word = joinBytes (u.byteAt hi) (u.byteAt lo) := fun u hu => by
    rw [State.readSeg_word_plain hu, atHi, atLo]
  refine ⟨fun ram => ?_, read s plain, s.writeSeg_wf sg off .word v, fun b hb =>
    State.byteAt_writeSeg_outside plain sg off .word v b (by rwa [bytes])⟩
  have back : t.readSeg sg off .word = v := State.readSeg_writeSeg plain sg off .word v (by rwa [bytes])
  have joined : joinBytes (t.byteAt hi) (t.byteAt lo) = v := (read t (plain.writeSeg sg off .word v)).symm.trans back
  exact ⟨by rw [← joined, loByte_joinBytes], by rw [← joined, hiByte_joinBytes], back⟩

/-! ## Bytes that may be queued -/

/-- Stored into RAM, a byte is remembered with the value it had if it may be queued and the value changes. -/
theorem State.store_stale {s : State} {a : Nat} (ram : s.kindAt a = .ram) (v : Byte) :
    (s.store a v).stale = s.staleAfter a v := by
  simp [State.store, ram]

/-- A fetch at `a` with one overwritten value remembered sees that value or memory's. -/
theorem State.fetchMemory_one_stale {s : State} {a : Nat} {old : Byte} (stale : s.stale = [(a, old)]) (k : Nat) :
    s.fetchMemory a k = s.byteAt a ∨ s.fetchMemory a k = old := by
  have choices : s.fetchChoices a = [old, s.byteAt a] := by simp [State.fetchChoices, stale]
  simp only [State.fetchMemory, choices, List.length_cons, List.length_nil]
  rcases Nat.mod_two_eq_zero_or_one (Config.freeFetch k) with even | odd
  · right; simp [even]
  · left; simp [odd]

/-- The span of the queue is four bytes from CS:IP on. -/
theorem State.queued_eq_false {s : State} {a : Nat}
    (outside : ∀ j, j < 4 → phys s.segs.cs (s.ip + BitVec.ofNat 16 j) ≠ a) : s.queued a = false := by
  simpa [State.queued, Config.queueBytes] using outside

/-- Settles O58: the store leaves no byte remembered, or the one it overwrote. -/
theorem queueHazard : Obligations.QueueHazard := by
  intro s a k v plain ram noStale
  rw [State.writeByte_plain plain]
  have ram' : (s.store a v).kindAt a = .ram := (State.kindAt_congr (s.store_env a v) a).trans ram
  have stored : (s.store a v).byteAt a = v := s.byteAt_store_same a v ram
  have stale := State.store_stale ram v
  have seen : (s.store a v).stale = [] → (s.store a v).fetchByte a k = v := fun forgotten =>
    (State.fetchByte_memory forgotten (.inl ram') k).trans stored
  refine ⟨?_, fun outside => seen ?_, fun off => ?_⟩
  · by_cases remembered : (s.queued a && s.byteAt a != v) = true
    · have one : (s.store a v).stale = [(a, s.byteAt a)] := by
        rw [stale, State.staleAfter, if_pos remembered, noStale]
      have fetched : (s.store a v).fetchByte a k = (s.store a v).fetchMemory a k := by
        simp only [State.fetchByte, ram']
      rw [fetched]
      exact (State.fetchMemory_one_stale one k).imp_left (·.trans stored)
    · exact .inl (seen (by rw [stale, State.staleAfter, if_neg remembered, noStale]))
  · simp [stale, State.staleAfter, State.queued_eq_false outside, noStale]
  · exact (State.fetchByte_memory (s := (s.store a v).jumpNear off) rfl (.inl ram') k).trans stored

end Sys2Proof.Machine
end

section
/-! The ports and the software interrupts (20_memory.md rules R62, R63 and R66, 40_data_transfer.md rules R139 to R142,
44_control_transfer.md rules R303 to R305; 92_eei_decisions.md D18 and D26). -/

namespace Sys2Proof.Machine

/-! ## Ports -/

/-- A scripted answer is the one the port gives. -/
theorem State.portByte_scripted {s : State} {b : Byte} {bs : List Byte} (scripted : s.env.portIn = b :: bs)
    (port : Word) : s.portByte port = b := by
  simp [State.portByte, scripted]

/-- One byte cycle at a port: the answer is used up and shown. -/
theorem State.afterPortRead_env {s : State} (uncut : s.env.cut = none) (port : Word) :
    (s.afterPortRead port).env = { s.env with
      portIn := s.env.portIn.tail, busLog := s.env.busLog ++ [.ioRead port (s.portByte port)] } := by
  rw [State.afterPortRead, State.busCycle_uncut uncut]
  rfl

theorem State.portWrite_env {s : State} (uncut : s.env.cut = none) (port : Word) (v : Byte) :
    (s.portWrite port v).env = { s.env with busLog := s.env.busLog ++ [.ioWrite port v] } := by
  rw [State.portWrite, State.busCycle_uncut uncut]
  rfl

/-- The two byte cycles of a word, at the port and at the next. -/
theorem State.ioRead_word_env {s : State} (uncut : s.env.cut = none) (port : Word) :
    (s.ioRead port .word).2.env = { s.env with
      portIn := s.env.portIn.tail.tail
      busLog := s.env.busLog
        ++ [.ioRead port (s.portByte port), .ioRead (port + 1) ((s.afterPortRead port).portByte (port + 1))] } := by
  have low := State.afterPortRead_env uncut port
  have uncut' : (s.afterPortRead port).env.cut = none := by rw [low]; exact uncut
  refine (State.afterPortRead_env uncut' (port + 1)).trans ?_
  simp [low]

theorem State.ioWrite_word_env {s : State} (uncut : s.env.cut = none) (port v : Word) :
    (s.ioWrite port .word v).env = { s.env with
      busLog := s.env.busLog ++ [.ioWrite port (loByte v), .ioWrite (port + 1) (hiByte v)] } := by
  have low := State.portWrite_env uncut port (loByte v)
  have uncut' : (s.portWrite port (loByte v)).env.cut = none := by rw [low]; exact uncut
  refine (State.portWrite_env uncut' (port + 1) (hiByte v)).trans ?_
  simp [low]

/-- The second of two scripted answers is left for the second byte cycle. -/
theorem State.portByte_afterPortRead_scripted {s : State} (uncut : s.env.cut = none) {l h : Byte} {bs : List Byte}
    (scripted : s.env.portIn = l :: h :: bs) (port next : Word) : (s.afterPortRead port).portByte next = h := by
  refine State.portByte_scripted (bs := bs) ?_ next
  rw [State.afterPortRead_env uncut, scripted]
  rfl

theorem State.afterPortRead_mem (s : State) (port : Word) : (s.afterPortRead port).mem = s.mem := by
  unfold State.afterPortRead State.busCycle
  split <;> rfl

theorem State.portWrite_mem (s : State) (port : Word) (v : Byte) : (s.portWrite port v).mem = s.mem := by
  unfold State.portWrite State.busCycle
  split <;> rfl

/-- The accumulator loaded, and no other register. -/
theorem State.inPort_regs (s : State) (w : Width) (port : Word) :
    (s.inPort w port).regs = s.regs.set w .axAl (s.ioRead port w).1 := by
  simp [State.inPort]

theorem State.inPort_sameRegsOutside (s : State) (w : Width) (port : Word) :
    SameRegsOutside w (.reg .axAl) s (s.inPort w port) := by
  have loaded := s.setReg_sameRegsOutside w .axAl (s.ioRead port w).1
  cases w <;> simpa [SameRegsOutside, SameRegsBut, State.inPort_regs] using loaded

/-- What a port access leaves alone: all but the general registers and the host's side. -/
structure PortFrame (s t : State) : Prop where
  flags : t.flags = s.flags
  segs : t.segs = s.segs
  ip : t.ip = s.ip
  mem : t.mem = s.mem
  pre : t.pre = s.pre
  latches : t.latches = s.latches
  progress : t.progress = s.progress

theorem State.inPort_portFrame (s : State) (w : Width) (port : Word) : PortFrame s (s.inPort w port) where
  flags := by simp [State.inPort]
  segs := by simp [State.inPort]
  ip := by simp [State.inPort]
  mem := by cases w <;> simp [State.inPort, State.ioRead, State.afterPortRead_mem]
  pre := by simp [State.inPort]
  latches := by simp [State.inPort]
  progress := by simp [State.inPort]

theorem State.ioWrite_portFrame (s : State) (port : Word) (w : Width) (v : BitVec w.bits) :
    PortFrame s (s.ioWrite port w v) where
  flags := by simp
  segs := by simp
  ip := by simp
  mem := by cases w <;> simp [State.ioWrite, State.portWrite_mem]
  pre := by simp
  latches := by simp
  progress := by simp

/-- Settles O20: a word is two byte cycles, the low byte at the lower port first. -/
theorem portTransfers : Obligations.PortTransfers := by
  intro s uncut inByte inWord outByte outWord
  have byteIn : ∀ i p, exec i s = .next (s.inPort .byte p) → inByte i p := fun i p answer => by
    refine ⟨_, answer, s.portByte p, ?_, s.afterPortRead_env uncut p,
      fun b bs scripted => State.portByte_scripted scripted p, s.inPort_sameRegsOutside .byte p⟩
    rw [State.inPort_regs]
    exact Regs.get8_set8 s.regs .axAl (s.portByte p)
  have wordIn : ∀ i p, exec i s = .next (s.inPort .word p) → inWord i p := fun i p answer => by
    refine ⟨_, answer, s.portByte p, (s.afterPortRead p).portByte (p + 1), ?_, s.ioRead_word_env uncut p,
      fun l bs scripted => State.portByte_scripted scripted p,
      fun l h bs scripted => State.portByte_afterPortRead_scripted uncut scripted p (p + 1),
      s.inPort_sameRegsOutside .word p⟩
    rw [State.inPort_regs]
    rfl
  have byteOut : ∀ i p, exec i s = .next (s.ioWrite p .byte (s.acc .byte)) → outByte i p := fun i p answer =>
    ⟨_, answer, s.portWrite_env uncut p _, s.ioWrite_regs p .byte _⟩
  have wordOut : ∀ i p, exec i s = .next (s.ioWrite p .word (s.acc .word)) → outWord i p := fun i p answer =>
    ⟨_, answer, s.ioWrite_word_env uncut p _, s.ioWrite_regs p .word _⟩
  refine ⟨fun p => ⟨byteIn _ _ rfl, wordIn _ _ rfl, byteOut _ _ rfl, wordOut _ _ rfl⟩, byteIn _ _ rfl, wordIn _ _ rfl,
    byteOut _ _ rfl, wordOut _ _ rfl, fun i w p t form answer => ?_⟩
  have frame : PortFrame s t := by
    rcases form with rfl | rfl | rfl | rfl <;> obtain rfl := Host.Outcome.next.inj answer
    · exact s.inPort_portFrame w _
    · exact s.inPort_portFrame w _
    · exact s.ioWrite_portFrame _ w _
    · exact s.ioWrite_portFrame _ w _
  exact ⟨frame.flags, frame.segs, frame.ip, frame.mem, frame.pre, frame.latches, frame.progress⟩

/-! ## Software interrupts -/

/-- Settles O43: each of the three instructions is the one entry, or nothing. -/
theorem interruptEntryAndSoftwareInterrupts : Obligations.InterruptEntryAndSoftwareInterrupts := by
  intro s plain
  have enters : ∀ type savedIp, Entered type savedIp s (s.interruptEntry type savedIp)
      ∧ (s.interruptEntry type savedIp).env = s.env := fun type savedIp =>
    ⟨State.interruptEntry_entered plain type savedIp, (State.interruptEntry_env_plain plain type savedIp).1⟩
  refine ⟨fun type savedIp => ?_, fun n => ⟨_, rfl, enters n s.ip⟩, ⟨_, rfl, enters 3 s.ip⟩,
    fun overflow => ⟨_, ?_, enters 4 s.ip⟩, fun noOverflow => ?_⟩
  · obtain ⟨entered, env⟩ := enters type savedIp
    exact ⟨entered, env, s.interruptEntry_wf type savedIp⟩
  · show execInto s = _
    simp [execInto, overflow]
  · show execInto s = _
    simp [execInto, noOverflow]

end Sys2Proof.Machine
end

section
/-! Where a step stops (30_encoding.md rules R97 and R105, 60_exceptions.md rule R354; 92_eei_decisions.md D7 and D14):
with its fetch only, since every instruction that is run has a next state. -/

namespace Sys2Proof.Machine

/-! ## Every instruction has a next state -/

/-- No instruction is without a next state: the two whose meaning splits on the operand have one for either kind. -/
theorem exec_next (i : Instr) (s : State) : ∃ t, exec i s = .next t := by
  cases i with
  | pushRm rm | esc op rm => cases rm <;> exact ⟨_, rfl⟩
  | _ => exact ⟨_, rfl⟩

theorem completeAnswer_exec_next (i : Instr) (s : State) : ∃ t, completeAnswer (exec i s) = .next t := by
  obtain ⟨t, answer⟩ := exec_next i s
  exact ⟨t.complete, by rw [answer]; rfl⟩

/-! ## The fetch -/

/-- The two ways to the spec's terminal state `Undefined` from a fetch at `s`, by the name of the stop. -/
inductive StopsFetch (s : State) : Refusal → Prop
  | undefinedEncoding {e : DecodeError} (undecoded : decode s.fetchWindow = .error e) :
      StopsFetch s (.undefinedEncoding e)
  | repeatBeforeNonString {i : Instr} {n : Nat} (decoded : decode s.fetchWindow = .ok (i, n))
      (noPrefix : isPrefixByte i = false) (noString : isStringPrimitive i = false) (repeated : s.pre.rep ≠ none) :
      StopsFetch s .repeatBeforeNonString

theorem runInstr_repeated {i : Instr} {s : State} (noPrefix : isPrefixByte i = false)
    (noString : isStringPrimitive i = false) (repeated : s.pre.rep ≠ none) :
    runInstr i s = .refused .repeatBeforeNonString := by
  simp [runInstr, noPrefix, noString, Option.isSome_iff_ne_none.2 repeated]

/-- A fetch from which the machine cannot go on is refused by that name, and any other answers a next state. -/
theorem State.fetchAndRun_of_stopsFetch {s : State} {r : Refusal} (stops : StopsFetch s r) :
    s.fetchAndRun = .refused r := by
  cases stops with
  | undefinedEncoding undecoded => simp [State.fetchAndRun, undecoded]
  | repeatBeforeNonString decoded noPrefix noString repeated =>
    simp only [State.fetchAndRun, decoded]
    exact runInstr_repeated noPrefix noString (by simpa [State.advance] using repeated)

theorem State.fetchAndRun_next_or_stops (s : State) : (∃ t, s.fetchAndRun = .next t) ∨ ∃ r, StopsFetch s r := by
  unfold State.fetchAndRun
  split
  · next e undecoded => exact .inr ⟨_, .undefinedEncoding undecoded⟩
  · next i n decoded =>
    by_cases isPrefix : isPrefixByte i = true
    · exact .inl (by rw [runInstr_prefixByte isPrefix]; exact exec_next _ _)
    have noPrefix : isPrefixByte i = false := by simpa using isPrefix
    by_cases allowed : s.pre.rep = none ∨ isStringPrimitive i = true
    · refine .inl ?_
      rw [runInstr_allowed noPrefix (by simpa [State.advance] using allowed)]
      exact completeAnswer_exec_next _ _
    · obtain ⟨repeated, noString⟩ := not_or.1 allowed
      exact .inr ⟨_, .repeatBeforeNonString decoded noPrefix (by simpa using noString) repeated⟩

/-! ## The turn and the step -/

/-- A turn answers a next state, or is a fetch from which the machine cannot go on. -/
theorem State.turn_next_or_stops (s : State) : (∃ t, s.turn = .next t)
    ∨ s.latches.halted = false ∧ s.progress.repeating = none ∧ ∃ r, StopsFetch s r ∧ s.turn = .refused r := by
  unfold State.turn
  split
  · exact .inl ⟨_, rfl⟩
  · next awake =>
    split
    · exact .inl (completeAnswer_exec_next _ _)
    · next noTurn =>
      refine s.fetchAndRun_next_or_stops.imp_right fun ⟨r, stops⟩ => ?_
      exact ⟨by simpa using awake, noTurn, r, stops, State.fetchAndRun_of_stopsFetch stops⟩

/-- What a fetch sees does not turn on the place inside the instruction. -/
theorem stopsFetch_setProgress_iff {s : State} {p : Progress} {r : Refusal} :
    StopsFetch (s.setProgress p) r ↔ StopsFetch s r := by
  constructor <;> intro stops
  all_goals cases stops with
    | undefinedEncoding undecoded => exact .undefinedEncoding undecoded
    | repeatBeforeNonString decoded noPrefix noString repeated =>
      exact .repeatBeforeNonString decoded noPrefix noString repeated

/-- The state that fetches in a step whose events leave `u`: the choice of 70_reset_and_hazards.md rule R391 draws once
before an early NMI (log entry 11). -/
def State.fetching (u : State) : State :=
  if u.progress.freshReset && u.latches.nmiPending then u.setDraws (u.draws + 1) else u

/-- That state with the mark of the reset gone. -/
def State.begun (u : State) : State := u.fetching.setProgress { u.progress with freshReset := false }

theorem State.fetching_latches (u : State) : u.fetching.latches = u.latches := by
  unfold State.fetching; split <;> rfl

theorem State.fetching_pre (u : State) : u.fetching.pre = u.pre := by
  unfold State.fetching; split <;> rfl

theorem State.fetching_of_noEarlyNmi {u : State}
    (noEarlyNmi : u.progress.freshReset = true → u.latches.nmiPending = false) : u.fetching = u := by
  cases fresh : u.progress.freshReset <;> simp [State.fetching, fresh, noEarlyNmi]

/-- But for an early NMI a step is the turn that begins it. -/
theorem step_eq_turn {s : State}
    (noEarlyNmi : s.takeInputs.progress.freshReset = true → s.takeInputs.latches.nmiPending = false) :
    step s = finishAnswer s.takeInputs.begun.turn := by
  unfold step cycle
  generalize s.takeInputs = u at *
  rw [State.begun, State.fetching_of_noEarlyNmi noEarlyNmi]
  split
  · next fresh => simp [State.firstTurn, noEarlyNmi fresh]
  · next old => rw [← Bool.eq_false_iff.2 old]; rfl

/-- An early NMI is taken, or the turn comes first. -/
theorem step_early_nmi {s : State} (fresh : s.takeInputs.progress.freshReset = true)
    (early : s.takeInputs.latches.nmiPending = true) :
    (∃ t, step s = .next t) ∨ step s = finishAnswer s.takeInputs.begun.turn := by
  unfold step cycle
  generalize s.takeInputs = u at *
  rw [if_pos fresh, State.firstTurn, if_pos early]
  split
  · exact .inl ⟨_, rfl⟩
  · right; simp [State.begun, State.fetching, fresh, early, State.setProgress_setDraws]

/-- Every step answers a next state, or stops by name at its fetch. -/
theorem step_next_or_stops (s : State) : (∃ t, step s = .next t)
    ∨ s.takeInputs.latches.halted = false ∧ s.takeInputs.progress.repeating = none
      ∧ ∃ r, StopsFetch s.takeInputs.fetching r ∧ step s = .refused r := by
  have nextOrTurn : (∃ t, step s = .next t) ∨ step s = finishAnswer s.takeInputs.begun.turn := by
    by_cases early : s.takeInputs.progress.freshReset = true ∧ s.takeInputs.latches.nmiPending = true
    · exact step_early_nmi early.1 early.2
    · exact .inr (step_eq_turn fun fresh => by simpa [fresh] using early)
  refine nextOrTurn.elim .inl fun answer => ?_
  rcases s.takeInputs.begun.turn_next_or_stops with ⟨t, next⟩ | ⟨awake, noTurn, r, stops, refused⟩
  · exact .inl ⟨t.finish, by rw [answer, next]; rfl⟩
  · refine .inr ⟨?_, noTurn, r, stopsFetch_setProgress_iff.1 stops, by rw [answer, refused]; rfl⟩
    rwa [State.begun, State.setProgress_latches, State.fetching_latches] at awake

/-- A step that stops was to fetch, and from that fetch the machine cannot go on. -/
theorem step_refused {s : State} {r : Refusal} (answer : step s = .refused r) :
    s.takeInputs.latches.halted = false ∧ s.takeInputs.progress.repeating = none
      ∧ StopsFetch s.takeInputs.fetching r := by
  rcases step_next_or_stops s with ⟨t, next⟩ | ⟨awake, noTurn, r', stops, refused⟩
  · cases next.symm.trans answer
  · obtain rfl := Host.Outcome.refused.inj (refused.symm.trans answer)
    exact ⟨awake, noTurn, stops⟩

/-- A fetch from which the machine cannot go on stops the step, where the step fetches. -/
theorem step_of_stopsFetch {s : State} {r : Refusal} (awake : s.takeInputs.latches.halted = false)
    (noTurn : s.takeInputs.progress.repeating = none)
    (noEarlyNmi : s.takeInputs.progress.freshReset = true → s.takeInputs.latches.nmiPending = false)
    (stops : StopsFetch s.takeInputs r) : step s = .refused r := by
  rw [step_eq_turn noEarlyNmi]
  generalize s.takeInputs = u at *
  have stopsBegun : StopsFetch u.begun r := by
    rw [State.begun, State.fetching_of_noEarlyNmi noEarlyNmi]
    exact stopsFetch_setProgress_iff.2 stops
  have turn : u.begun.turn = u.begun.fetchAndRun := by
    simp [State.turn, State.begun, State.fetching_latches, awake, noTurn]
  rw [turn, State.fetchAndRun_of_stopsFetch stopsBegun]
  rfl

/-- Settles O6: a step stops exactly with its fetch, and every instruction that is run has a next state. -/
theorem stepStopsExactlyWhereUndefined : Obligations.StepStopsExactlyWhereUndefined := by
  refine ⟨exec_next, fun s => ?_, ?_⟩
  · rcases step_next_or_stops s with next | ⟨-, -, r, stops, answer⟩
    · exact .inl next
    · cases stops with
      | undefinedEncoding => exact .inr (.inl ⟨_, answer⟩)
      | repeatBeforeNonString => exact .inr (.inr answer)
  intro s u awake noTurn noEarlyNmi
  refine ⟨fun e undecoded => ?_, fun i n decoded noPrefix noString repeated => ?_,
    fun s => ⟨fun e answer => ?_, fun answer => ?_⟩⟩
  · exact step_of_stopsFetch awake noTurn noEarlyNmi (.undefinedEncoding undecoded)
  · exact step_of_stopsFetch awake noTurn noEarlyNmi (.repeatBeforeNonString decoded noPrefix noString repeated)
  · obtain ⟨awake, noTurn, stops⟩ := step_refused answer
    cases stops with
    | undefinedEncoding undecoded => exact ⟨awake, noTurn, undecoded⟩
  · obtain ⟨awake, noTurn, stops⟩ := step_refused answer
    cases stops with
    | repeatBeforeNonString decoded noPrefix noString repeated =>
      exact ⟨awake, noTurn, by rwa [State.fetching_pre] at repeated, _, _, decoded, noPrefix, noString⟩

end Sys2Proof.Machine
end

section
/-! What a decoder reads (30_encoding.md section 4). A run is split into the bytes the decoder takes and the rest,
which it does not look at (`Decoder.Reads`). The ModRM byte is the one place where it reads a field at a time: each of
its five forms gets its equation, and together they say that a ModRM form reads a reg field and a well-formed operand,
whole. -/

namespace Sys2Proof

@[simp] theorem Reg.ofBits_bits (r : Reg) : Reg.ofBits r.bits = r := by cases r <;> rfl
@[simp] theorem Reg.bits_ofBits (b : BitVec 3) : (Reg.ofBits b).bits = b := by revert b; decide
@[simp] theorem Base.ofBits_bits (b : Base) : Base.ofBits b.bits = b := by cases b <;> rfl
@[simp] theorem Base.bits_ofBits (b : BitVec 3) : (Base.ofBits b).bits = b := by revert b; decide

/-- `[BP]` without a displacement is the one operand that no ModRM byte stands for (rule R85). -/
theorem MemRef.wf_based_iff (b : Base) (d : Disp) : (MemRef.based b d).wf = true ↔ (d = .none → b ≠ .bp) := by
  cases b <;> cases d <;> simp [MemRef.wf]

namespace Decoder

/-- The decoder asks for exactly these bytes and answers the instruction. -/
def Reads : Decoder → List Byte → Instr → Prop
  | .done j, [], i => j = i
  | .byte k, b :: bs, i => (k b).Reads bs i
  | _, _, _ => False

/-- A run answers what the decoder reads from the bytes it takes, and counts them. -/
theorem run_eq_ok_iff {d : Decoder} {bs : List Byte} {n m : Nat} {i : Instr} :
    d.run bs n = .ok (i, m) ↔ ∃ used rest, bs = used ++ rest ∧ m = n + used.length ∧ d.Reads used i := by
  induction d generalizing bs n with
  | done j =>
    constructor
    · intro h
      obtain ⟨rfl, rfl⟩ := by simpa [run] using h
      exact ⟨[], bs, rfl, rfl, rfl⟩
    · rintro ⟨used, rest, rfl, rfl, reads⟩
      cases used with
      | nil => obtain rfl : j = i := reads; simp [run]
      | cons b used => exact reads.elim
  | fail e =>
    refine ⟨fun h => (nomatch h), ?_⟩
    rintro ⟨used, rest, -, -, reads⟩
    cases used <;> exact reads.elim
  | byte k ih =>
    constructor
    · intro h
      cases bs with
      | nil => cases h
      | cons b bs =>
        obtain ⟨used, rest, rfl, rfl, reads⟩ := (ih b).1 h
        exact ⟨b :: used, rest, rfl, by simp; omega, reads⟩
    · rintro ⟨used, rest, rfl, rfl, reads⟩
      cases used with
      | nil => exact reads.elim
      | cons b used => exact (ih b).2 ⟨used, rest, rfl, by simp; omega, reads⟩

/-! ## Fields -/

theorem modField_modrmByte (m : BitVec 2) (reg rm : BitVec 3) : modField (Encode.modrmByte m reg rm) = m := by
  revert m reg rm; decide
theorem regField_modrmByte (m : BitVec 2) (reg rm : BitVec 3) : regField (Encode.modrmByte m reg rm) = reg := by
  revert m reg rm; decide
theorem rmField_modrmByte (m : BitVec 2) (reg rm : BitVec 3) : rmField (Encode.modrmByte m reg rm) = rm := by
  revert m reg rm; decide
theorem modrmByte_fields (b : Byte) : Encode.modrmByte (modField b) (regField b) (rmField b) = b := by
  revert b; decide

/-! ## The r/m operand -/

section
variable (reg : BitVec 3) (k : Rm → Decoder)

theorem rmOf_direct : rmOf (Encode.modrmByte 0 reg 6) k = word fun a => k (.mem (.direct a)) := by
  simp [rmOf, modField_modrmByte, rmField_modrmByte]

theorem rmOf_none (b : Base) (notBp : b ≠ .bp) :
    rmOf (Encode.modrmByte 0 reg b.bits) k = k (.mem (.based b .none)) := by
  have noDirect : b.bits ≠ 6#3 := fun direct => notBp (by rw [← Base.ofBits_bits b, direct]; rfl)
  simp [rmOf, modField_modrmByte, rmField_modrmByte, noDirect, Base.ofBits_bits]

theorem rmOf_d8 (b : Base) :
    rmOf (Encode.modrmByte 1 reg b.bits) k = .byte fun d => k (.mem (.based b (.d8 d))) := by
  simp [rmOf, modField_modrmByte, rmField_modrmByte, Base.ofBits_bits]

theorem rmOf_d16 (b : Base) :
    rmOf (Encode.modrmByte 2 reg b.bits) k = word fun d => k (.mem (.based b (.d16 d))) := by
  simp [rmOf, modField_modrmByte, rmField_modrmByte, Base.ofBits_bits]

theorem rmOf_reg (r : Reg) : rmOf (Encode.modrmByte 3 reg r.bits) k = k (.reg r) := by
  simp [rmOf, modField_modrmByte, rmField_modrmByte, Reg.ofBits_bits]

end

/-- Two bytes are a word's, low byte first. -/
theorem reads_word {k : Word → Decoder} {bs : List Byte} {i : Instr} :
    (word k).Reads bs i ↔ ∃ v tail, bs = Encode.word v ++ tail ∧ (k v).Reads tail i := by
  constructor
  · intro reads
    match bs, reads with
    | lo :: hi :: tail, reads => exact ⟨joinBytes hi lo, tail, by simp [Encode.word], reads⟩
  · rintro ⟨v, tail, rfl, reads⟩
    show (k (joinBytes (hiByte v) (loByte v))).Reads tail i
    rwa [joinBytes_hiByte_loByte]

end Decoder

namespace Encode

/-- Every ModRM byte is one of five forms. -/
inductive ModrmByte : Byte → Prop
  | direct (reg : BitVec 3) : ModrmByte (modrmByte 0 reg 6)
  | none (reg : BitVec 3) (b : Base) (notBp : b ≠ .bp) : ModrmByte (modrmByte 0 reg b.bits)
  | d8 (reg : BitVec 3) (b : Base) : ModrmByte (modrmByte 1 reg b.bits)
  | d16 (reg : BitVec 3) (b : Base) : ModrmByte (modrmByte 2 reg b.bits)
  | reg (reg : BitVec 3) (r : Reg) : ModrmByte (modrmByte 3 reg r.bits)

theorem modrmByte_forms (m : Byte) : ModrmByte m := by
  rw [← Decoder.modrmByte_fields m]
  generalize Decoder.modField m = mod, Decoder.regField m = reg, Decoder.rmField m = rm
  have mods : mod = 0 ∨ mod = 1 ∨ mod = 2 ∨ mod = 3 := by revert mod; decide
  rcases mods with rfl | rfl | rfl | rfl
  · by_cases direct : rm = 6
    · exact direct ▸ .direct reg
    · rw [← Base.bits_ofBits rm] at direct ⊢
      exact .none reg _ fun bp => direct (by rw [bp]; rfl)
  · exact Base.bits_ofBits rm ▸ .d8 reg _
  · exact Base.bits_ofBits rm ▸ .d16 reg _
  · exact Reg.bits_ofBits rm ▸ .reg reg _

end Encode

namespace Decoder

/-- The bytes of a ModRM form are those of a reg field and a well-formed operand. -/
theorem reads_modrm {k : BitVec 3 → Rm → Decoder} {bs : List Byte} {i : Instr} :
    (modrm k).Reads bs i ↔
      ∃ reg rm tail, rm.wf = true ∧ bs = Encode.rm reg rm ++ tail ∧ (k reg rm).Reads tail i := by
  constructor
  · intro reads
    match bs, reads with
    | m :: bs, (reads : (rmOf m (k (regField m))).Reads bs i) =>
    cases Encode.modrmByte_forms m with
    | direct reg =>
      rw [rmOf_direct, regField_modrmByte, reads_word] at reads
      obtain ⟨a, tail, rfl, reads⟩ := reads
      exact ⟨reg, .mem (.direct a), tail, rfl, rfl, reads⟩
    | none reg b notBp =>
      rw [rmOf_none _ _ b notBp, regField_modrmByte] at reads
      exact ⟨reg, .mem (.based b .none), bs, (MemRef.wf_based_iff b _).2 fun _ => notBp, rfl, reads⟩
    | d8 reg b =>
      rw [rmOf_d8, regField_modrmByte] at reads
      match bs, reads with
      | d :: tail, reads => exact ⟨reg, .mem (.based b (.d8 d)), tail, (MemRef.wf_based_iff b _).2 nofun, rfl, reads⟩
    | d16 reg b =>
      rw [rmOf_d16, regField_modrmByte, reads_word] at reads
      obtain ⟨d, tail, rfl, reads⟩ := reads
      exact ⟨reg, .mem (.based b (.d16 d)), tail, (MemRef.wf_based_iff b _).2 nofun, rfl, reads⟩
    | reg reg r =>
      rw [rmOf_reg, regField_modrmByte] at reads
      exact ⟨reg, .reg r, bs, rfl, rfl, reads⟩
  · rintro ⟨reg, rm, tail, wf, rfl, reads⟩
    match rm, wf with
    | .mem (.direct a), _ =>
      show (rmOf (Encode.modrmByte 0 reg 6) _).Reads (Encode.word a ++ tail) i
      rw [rmOf_direct, regField_modrmByte]
      exact reads_word.2 ⟨a, tail, rfl, reads⟩
    | .mem (.based b .none), wf =>
      show (rmOf (Encode.modrmByte 0 reg b.bits) _).Reads tail i
      rw [rmOf_none _ _ b ((MemRef.wf_based_iff b _).1 wf rfl), regField_modrmByte]
      exact reads
    | .mem (.based b (.d8 d)), _ =>
      show (rmOf (Encode.modrmByte 1 reg b.bits) _).Reads (d :: tail) i
      rw [rmOf_d8, regField_modrmByte]
      exact reads
    | .mem (.based b (.d16 d)), _ =>
      show (rmOf (Encode.modrmByte 2 reg b.bits) _).Reads (Encode.word d ++ tail) i
      rw [rmOf_d16, regField_modrmByte]
      exact reads_word.2 ⟨d, tail, rfl, reads⟩
    | .reg r, _ =>
      show (rmOf (Encode.modrmByte 3 reg r.bits) _).Reads tail i
      rw [rmOf_reg, regField_modrmByte]
      exact reads

end Decoder
end Sys2Proof
end

section
/-! What decodes is an encoding (30_encoding.md rules R98, R100 and R101). A decoder is `Sound` after the bytes taken
before it if whatever it reads completes an encoding. Each format has its rule, then each group, then each row of the
first-byte map, where the place in the row is the opcode. -/

namespace Sys2Proof

/-- These bytes are the encoding of the instruction, which is well formed. -/
def Instr.Encoded (i : Instr) (bs : List Byte) : Prop := i.wf = true ∧ encode i = bs

namespace Encode

variable (o : BitVec 3) (m : Rm)

theorem arithForm_op80 (v : Byte) : arithForm o (.op80 v) m = [0x80] ++ rm o m ++ [v] := by
  simp [arithForm, arithSw, arithBytes]
theorem arithForm_op81 (v : Word) : arithForm o (.op81 v) m = [0x81] ++ rm o m ++ word v := by
  simp [arithForm, arithSw, arithBytes]
theorem arithForm_op82 (v : Byte) : arithForm o (.op82 v) m = [0x82] ++ rm o m ++ [v] := by
  simp [arithForm, arithSw, arithBytes]
theorem arithForm_op83 (v : Byte) : arithForm o (.op83 v) m = [0x83] ++ rm o m ++ [v] := by
  simp [arithForm, arithSw, arithBytes]
theorem logicForm_byte (v : Byte) : logicForm o (.byte v) m = [0x80] ++ rm o m ++ [v] := by
  simp [logicForm, immWidth, immBytes]
theorem logicForm_word (v : Word) : logicForm o (.word v) m = [0x81] ++ rm o m ++ word v := by
  simp [logicForm, immWidth, immBytes]

end Encode

namespace Decoder

/-- With these bytes taken before it, the decoder reads nothing but the rest of an encoding. -/
def Sound (d : Decoder) (before : List Byte) : Prop := ∀ bs i, d.Reads bs i → i.Encoded (before ++ bs)

section
variable {p : List Byte}

theorem sound_done {i : Instr} (h : i.Encoded p) : (done i).Sound p := fun bs j reads => by
  cases bs with
  | nil => obtain rfl : i = j := reads; simpa using h
  | cons => exact reads.elim

theorem sound_fail (e : DecodeError) : (fail e).Sound p := fun bs i reads => by cases bs <;> exact reads.elim

theorem sound_byte {k : Byte → Decoder} (h : ∀ b, (k b).Sound (p ++ [b])) : (byte k).Sound p := fun bs i reads => by
  match bs, reads with
  | b :: bs, reads => simpa using h b bs i reads

theorem sound_word {k : Word → Decoder} (h : ∀ v, (k v).Sound (p ++ Encode.word v)) : (word k).Sound p :=
  fun bs i reads => by
    obtain ⟨v, tail, rfl, after⟩ := reads_word.1 reads
    simpa using h v tail i after

theorem sound_modrm {k : BitVec 3 → Rm → Decoder}
    (h : ∀ reg rm, rm.wf = true → (k reg rm).Sound (p ++ Encode.rm reg rm)) : (modrm k).Sound p :=
  fun bs i reads => by
    obtain ⟨reg, rm, tail, wf, rfl, after⟩ := reads_modrm.1 reads
    simpa using h reg rm wf tail i after

/-! ### Formats of rule R82 -/

theorem sound_imm8 {k : Byte → Instr} (h : ∀ v, (k v).Encoded (p ++ [v])) : (imm8 k).Sound p :=
  sound_byte fun v => sound_done (h v)

theorem sound_imm16 {k : Word → Instr} (h : ∀ v, (k v).Encoded (p ++ Encode.word v)) : (imm16 k).Sound p :=
  sound_word fun v => sound_done (h v)

theorem sound_imm {w : Width} {k : Imm → Instr}
    (h : ∀ v, Encode.immWidth v = Encode.wBit w → (k v).Encoded (p ++ Encode.immBytes v)) : (imm w k).Sound p := by
  cases w with
  | byte => exact sound_imm8 fun v => h (.byte v) rfl
  | word => exact sound_imm16 fun v => h (.word v) rfl

theorem sound_farPtr {k : Word → Word → Instr}
    (h : ∀ off sgm, (k off sgm).Encoded (p ++ (Encode.word off ++ Encode.word sgm))) : (farPtr k).Sound p :=
  sound_word fun off => sound_word fun sgm => sound_done (by simpa using h off sgm)

theorem sound_adjust {op : Byte} {i : Instr} (h : i.Encoded (p ++ [0x0A])) : (adjust op i).Sound p :=
  sound_byte fun b => by
    split
    · next ten => exact ten ▸ sound_done h
    · exact sound_fail _

theorem sound_regRm {k : Reg → Rm → Instr}
    (h : ∀ r rm, rm.wf = true → (k r rm).Encoded (p ++ Encode.rm r.bits rm)) : (regRm k).Sound p :=
  sound_modrm fun reg rm wf => sound_done (by simpa using h (Reg.ofBits reg) rm wf)

theorem sound_regMem {op : Byte} {k : Reg → MemRef → Instr}
    (h : ∀ r m, m.wf = true → (k r m).Encoded (p ++ Encode.rm r.bits (.mem m))) : (regMem op k).Sound p :=
  sound_modrm (k := fun reg => fun | .mem m => .done (k (Reg.ofBits reg) m) | .reg _ => .fail (.registerForm op))
    fun reg rm wf => by
      cases rm with
      | mem m => exact sound_done (by simpa using h (Reg.ofBits reg) m wf)
      | reg r => exact sound_fail _

/-- Each member of the list is sound after its number in the reg field, the first of which is `first`. -/
def MembersSound (before : List Byte) (first : Nat) (members : List (Rm → Decoder)) : Prop :=
  ∀ x ∈ members.zipIdx first, ∀ rm, rm.wf = true → (x.1 rm).Sound (before ++ Encode.rm (BitVec.ofNat 3 x.2) rm)

theorem membersSound_nil (n : Nat) : MembersSound p n [] ↔ True := by simp [MembersSound]

theorem membersSound_cons (n : Nat) (d : Rm → Decoder) (ds : List (Rm → Decoder)) : MembersSound p n (d :: ds) ↔
    (∀ rm, rm.wf = true → (d rm).Sound (p ++ Encode.rm (BitVec.ofNat 3 n) rm)) ∧ MembersSound p (n + 1) ds := by
  simp [MembersSound]

theorem sound_group {members : List (Rm → Decoder)} {op : Byte} (h : MembersSound p 0 members) :
    (group members op).Sound p :=
  sound_modrm fun reg rm wf => by
    by_cases named : reg.toNat < members.length
    · have sound := h (members[reg.toNat], reg.toNat) (List.mk_mem_zipIdx_iff_getElem?.2 (by simp [named])) rm wf
      simpa [named] using sound
    · simpa [named] using sound_fail _

theorem sound_shiftGroup {op : Byte} {w : Width} {v : Count}
    (first : op = (0x34 : BitVec 6) ++ Encode.vBit v ++ Encode.wBit w) : (shiftGroup op w v).Sound [op] := by
  subst first
  refine sound_group ?_
  simp only [membersSound_cons, membersSound_nil, and_true]
  refine ⟨?_, ?_, ?_, ?_, ?_, ?_, fun _ _ => sound_fail _, ?_⟩
  all_goals exact fun _ wf => sound_done ⟨wf, rfl⟩

theorem sound_unaryGroup {op : Byte} {w : Width} (first : op = (0x7B : BitVec 7) ++ Encode.wBit w) :
    (unaryGroup op w).Sound [op] := by
  subst first
  refine sound_group ?_
  simp only [membersSound_cons, membersSound_nil, and_true]
  refine ⟨fun _ wf => sound_imm fun _ width => ⟨wf, width ▸ rfl⟩, fun _ _ => sound_fail _, ?_, ?_, ?_, ?_, ?_, ?_⟩
  all_goals exact fun _ wf => sound_done ⟨wf, rfl⟩

theorem sound_immGroup80 : (immGroup 0x80).Sound [0x80] := by
  refine sound_group ?_
  simp only [membersSound_cons, membersSound_nil, and_true]
  exact ⟨fun _ wf => sound_imm8 fun _ => ⟨wf, Encode.arithForm_op80 ..⟩,
    fun _ wf => sound_imm8 fun _ => ⟨wf, Encode.logicForm_byte ..⟩,
    fun _ wf => sound_imm8 fun _ => ⟨wf, Encode.arithForm_op80 ..⟩,
    fun _ wf => sound_imm8 fun _ => ⟨wf, Encode.arithForm_op80 ..⟩,
    fun _ wf => sound_imm8 fun _ => ⟨wf, Encode.logicForm_byte ..⟩,
    fun _ wf => sound_imm8 fun _ => ⟨wf, Encode.arithForm_op80 ..⟩,
    fun _ wf => sound_imm8 fun _ => ⟨wf, Encode.logicForm_byte ..⟩,
    fun _ wf => sound_imm8 fun _ => ⟨wf, Encode.arithForm_op80 ..⟩⟩

theorem sound_immGroup81 : (immGroup 0x81).Sound [0x81] := by
  refine sound_group ?_
  simp only [membersSound_cons, membersSound_nil, and_true]
  exact ⟨fun _ wf => sound_imm16 fun _ => ⟨wf, Encode.arithForm_op81 ..⟩,
    fun _ wf => sound_imm16 fun _ => ⟨wf, Encode.logicForm_word ..⟩,
    fun _ wf => sound_imm16 fun _ => ⟨wf, Encode.arithForm_op81 ..⟩,
    fun _ wf => sound_imm16 fun _ => ⟨wf, Encode.arithForm_op81 ..⟩,
    fun _ wf => sound_imm16 fun _ => ⟨wf, Encode.logicForm_word ..⟩,
    fun _ wf => sound_imm16 fun _ => ⟨wf, Encode.arithForm_op81 ..⟩,
    fun _ wf => sound_imm16 fun _ => ⟨wf, Encode.logicForm_word ..⟩,
    fun _ wf => sound_imm16 fun _ => ⟨wf, Encode.arithForm_op81 ..⟩⟩

/-- 82h and 83h have the arithmetic members only (rule R108). -/
theorem sound_immGroup82 : (immGroup 0x82).Sound [0x82] := by
  refine sound_group ?_
  simp only [membersSound_cons, membersSound_nil, and_true]
  refine ⟨?_, fun _ _ => sound_fail _, ?_, ?_, fun _ _ => sound_fail _, ?_, fun _ _ => sound_fail _, ?_⟩
  all_goals exact fun _ wf => sound_imm8 fun _ => ⟨wf, Encode.arithForm_op82 ..⟩

theorem sound_immGroup83 : (immGroup 0x83).Sound [0x83] := by
  refine sound_group ?_
  simp only [membersSound_cons, membersSound_nil, and_true]
  refine ⟨?_, fun _ _ => sound_fail _, ?_, ?_, fun _ _ => sound_fail _, ?_, fun _ _ => sound_fail _, ?_⟩
  all_goals exact fun _ wf => sound_imm8 fun _ => ⟨wf, Encode.arithForm_op83 ..⟩

theorem sound_byteGroup :
    (group [fun rm => .done (.incRm .byte rm), fun rm => .done (.decRm .byte rm)] 0xFE).Sound [0xFE] := by
  refine sound_group ?_
  simp only [membersSound_cons, membersSound_nil, and_true]
  exact ⟨fun _ wf => sound_done ⟨wf, rfl⟩, fun _ wf => sound_done ⟨wf, rfl⟩⟩

theorem sound_wordGroup : (wordGroup 0xFF).Sound [0xFF] := by
  refine sound_group ?_
  simp only [membersSound_cons, membersSound_nil, and_true]
  refine ⟨fun _ wf => sound_done ⟨wf, rfl⟩, fun _ wf => sound_done ⟨wf, rfl⟩, fun _ wf => sound_done ⟨wf, rfl⟩,
    fun rm wf => ?_, fun _ wf => sound_done ⟨wf, rfl⟩, fun rm wf => ?_, fun _ wf => sound_done ⟨wf, rfl⟩,
    fun _ _ => sound_fail _⟩
  all_goals cases rm with
    | mem m => exact sound_done ⟨wf, rfl⟩
    | reg r => exact sound_fail _

/-- A segment register number is in the low two bits of the reg field, and the third is clear. -/
theorem zeroExtended_sreg (reg : BitVec 3) (clear : reg.getLsbD 2 = false) :
    (0 : BitVec 1) ++ (SReg.ofBits (reg.extractLsb' 0 2)).bits = reg := by
  revert reg; decide

theorem sound_storeSreg : (storeSreg 0x8C).Sound [0x8C] :=
  sound_modrm fun reg rm wf => by
    split
    · exact sound_fail _
    · next clear =>
      refine sound_done ⟨wf, ?_⟩
      show 0x8C :: Encode.rm _ rm = _
      rw [zeroExtended_sreg reg (by simpa using clear)]
      rfl

theorem sound_loadSreg : (loadSreg 0x8E).Sound [0x8E] := by
  refine sound_group ?_
  simp only [membersSound_cons, membersSound_nil, and_true]
  exact ⟨fun _ wf => sound_done ⟨wf, rfl⟩, fun _ _ => sound_fail _, fun _ wf => sound_done ⟨wf, rfl⟩,
    fun _ wf => sound_done ⟨wf, rfl⟩⟩

/-- The high x bits of ESC come from the first byte, the low ones from the reg field (rule R107). -/
theorem sound_escape (high : BitVec 3) : (escape high).Sound [(0x1B : BitVec 5) ++ high] :=
  sound_modrm fun low rm wf => sound_done ⟨wf, by
    obtain ⟨highBits, lowBits⟩ : (high ++ low).extractLsb' 3 3 = high ∧ (high ++ low).extractLsb' 0 3 = low := by
      revert high low; decide
    show ((0x1B : BitVec 5) ++ (high ++ low).extractLsb' 3 3) :: Encode.rm ((high ++ low).extractLsb' 0 3) rm = _
    rw [highBits, lowBits]
    rfl⟩

theorem sound_popGroup : (group [fun rm => .done (.popRm rm)] 0x8F).Sound [0x8F] := by
  refine sound_group ?_
  simp only [membersSound_cons, membersSound_nil, and_true]
  exact fun _ wf => sound_done ⟨wf, rfl⟩

theorem sound_movImm {op : Byte} {w : Width} (first : op = (0x63 : BitVec 7) ++ Encode.wBit w) :
    (group [fun rm => imm w fun v => .movRmImm v rm] op).Sound [op] := by
  subst first
  refine sound_group ?_
  simp only [membersSound_cons, membersSound_nil, and_true]
  exact fun _ wf => sound_imm fun v width => ⟨wf, width ▸ rfl⟩

end

/-! ### Rows of the first-byte map -/

/-- Each decoder of the list is sound after its opcode, the first of which is `first`. -/
def RowSound (first : Nat) (row : List Decoder) : Prop := ∀ x ∈ row.zipIdx first, x.1.Sound [BitVec.ofNat 8 x.2]

theorem rowSound_nil (n : Nat) : RowSound n [] ↔ True := by simp [RowSound]

theorem rowSound_cons (n : Nat) (d : Decoder) (ds : List Decoder) :
    RowSound n (d :: ds) ↔ d.Sound [BitVec.ofNat 8 n] ∧ RowSound (n + 1) ds := by simp [RowSound]

theorem rowSound_append (n : Nat) (ds es : List Decoder) :
    RowSound n (ds ++ es) ↔ RowSound n ds ∧ RowSound (n + ds.length) es := by
  simp [RowSound, List.zipIdx_append, or_imp, forall_and]

theorem RowSound.getD {n : Nat} {row : List Decoder} (h : RowSound n row) (k : Nat) (e : DecodeError) :
    (row.getD k (.fail e)).Sound [BitVec.ofNat 8 (n + k)] := by
  by_cases inRow : k < row.length
  · have sound := h (row[k], n + k) (List.mk_mem_zipIdx_iff_le_and_getElem?_sub.2 (by simp [inRow]))
    simpa [inRow] using sound
  · simpa [inRow] using sound_fail _

/-! ### Opcodes as numbers -/

theorem opcode_dw (op : BitVec 6) (d : Dir) (w : Width) : (op ++ Encode.dBit d ++ Encode.wBit w : Byte)
    = BitVec.ofNat 8 (4 * op.toNat + 2 * (Encode.dBit d).toNat + (Encode.wBit w).toNat) := by
  generalize Encode.dBit d = x, Encode.wBit w = y
  revert op x y; decide

theorem opcode_w (op : BitVec 7) (w : BitVec 1) : (op ++ w : Byte) = BitVec.ofNat 8 (2 * op.toNat + w.toNat) := by
  revert op w; decide

theorem opcode_reg (op : BitVec 5) (r : BitVec 3) : (op ++ r : Byte) = BitVec.ofNat 8 (8 * op.toNat + r.toNat) := by
  revert op r; decide

/-! ### Runs of opcodes with the bits d, w or a register number at their end -/

theorem rowSound_dwForms {n : Nat} {op : BitVec 6} {k : Width → Dir → Rm → Reg → Instr}
    (h : ∀ w d m r, m.wf = true → (k w d m r).Encoded ((op ++ Encode.dBit d ++ Encode.wBit w) :: Encode.rm r.bits m))
    (first : n = 4 * op.toNat) : RowSound n (dwForms k) := by
  subst first
  simp only [opcode_dw] at h
  simp only [dwForms, rowSound_cons, rowSound_nil, and_true]
  exact ⟨sound_regRm fun r m => h .byte .fromReg m r, sound_regRm fun r m => h .word .fromReg m r,
    sound_regRm fun r m => h .byte .toReg m r, sound_regRm fun r m => h .word .toReg m r⟩

theorem rowSound_wForms {n : Nat} {op : BitVec 7} {k : Width → Rm → Reg → Instr}
    (h : ∀ w m r, m.wf = true → (k w m r).Encoded ((op ++ Encode.wBit w) :: Encode.rm r.bits m))
    (first : n = 2 * op.toNat) : RowSound n (wForms k) := by
  subst first
  simp only [opcode_w] at h
  simp only [wForms, rowSound_cons, rowSound_nil, and_true]
  exact ⟨sound_regRm fun r m => h .byte m r, sound_regRm fun r m => h .word m r⟩

theorem rowSound_accForms {n : Nat} {op : BitVec 7} {k : Imm → Instr}
    (h : ∀ v, (k v).Encoded ((op ++ Encode.immWidth v) :: Encode.immBytes v))
    (first : n = 2 * op.toNat) : RowSound n (accForms k) := by
  subst first
  simp only [opcode_w] at h
  simp only [accForms, rowSound_cons, rowSound_nil, and_true]
  exact ⟨sound_imm8 fun v => h (.byte v), sound_imm16 fun v => h (.word v)⟩

theorem rowSound_wOps {n : Nat} {op : BitVec 7} {k : Width → Instr}
    (h : ∀ w, (k w).Encoded [op ++ Encode.wBit w]) (first : n = 2 * op.toNat) : RowSound n (wOps k) := by
  subst first
  simp only [opcode_w] at h
  simp only [wOps, rowSound_cons, rowSound_nil, and_true]
  exact ⟨sound_done (h .byte), sound_done (h .word)⟩

theorem rowSound_regOps {n : Nat} {op : BitVec 5} {k : Reg → Instr}
    (h : ∀ r, (k r).Encoded [op ++ r.bits]) (first : n = 8 * op.toNat) : RowSound n (regOps k) := by
  subst first
  simp only [opcode_reg] at h
  simp only [regOps, rowSound_cons, rowSound_nil, and_true]
  exact ⟨sound_done (h .axAl), sound_done (h .cxCl), sound_done (h .dxDl), sound_done (h .bxBl),
    sound_done (h .spAh), sound_done (h .bpCh), sound_done (h .siDh), sound_done (h .diBh)⟩

theorem rowSound_regImms {n : Nat} {w : Width} {op : BitVec 5} {k : Imm → Reg → Instr}
    (h : ∀ v r, Encode.immWidth v = Encode.wBit w → (k v r).Encoded ((op ++ r.bits) :: Encode.immBytes v))
    (first : n = 8 * op.toNat) : RowSound n (regImms w k) := by
  subst first
  simp only [opcode_reg] at h
  simp only [regImms, rowSound_cons, rowSound_nil, and_true]
  exact ⟨sound_imm fun v => h v .axAl, sound_imm fun v => h v .cxCl, sound_imm fun v => h v .dxDl,
    sound_imm fun v => h v .bxBl, sound_imm fun v => h v .spAh, sound_imm fun v => h v .bpCh,
    sound_imm fun v => h v .siDh, sound_imm fun v => h v .diBh⟩

/-! ### The sixteen rows -/

theorem rowSound_map0 : RowSound 0x00 map0 := by
  simp only [map0, rowSound_append, rowSound_cons, rowSound_nil, and_true, and_assoc]
  exact ⟨rowSound_dwForms (fun _ _ _ _ wf => ⟨wf, rfl⟩) rfl, rowSound_accForms (fun _ => ⟨rfl, rfl⟩) rfl,
    sound_done ⟨rfl, rfl⟩, sound_done ⟨rfl, rfl⟩,
    rowSound_dwForms (fun _ _ _ _ wf => ⟨wf, rfl⟩) rfl, rowSound_accForms (fun _ => ⟨rfl, rfl⟩) rfl,
    sound_done ⟨rfl, rfl⟩, sound_fail _⟩

theorem rowSound_map1 : RowSound 0x10 map1 := by
  simp only [map1, rowSound_append, rowSound_cons, rowSound_nil, and_true, and_assoc]
  exact ⟨rowSound_dwForms (fun _ _ _ _ wf => ⟨wf, rfl⟩) rfl, rowSound_accForms (fun _ => ⟨rfl, rfl⟩) rfl,
    sound_done ⟨rfl, rfl⟩, sound_done ⟨rfl, rfl⟩,
    rowSound_dwForms (fun _ _ _ _ wf => ⟨wf, rfl⟩) rfl, rowSound_accForms (fun _ => ⟨rfl, rfl⟩) rfl,
    sound_done ⟨rfl, rfl⟩, sound_done ⟨rfl, rfl⟩⟩

theorem rowSound_map2 : RowSound 0x20 map2 := by
  simp only [map2, rowSound_append, rowSound_cons, rowSound_nil, and_true, and_assoc]
  exact ⟨rowSound_dwForms (fun _ _ _ _ wf => ⟨wf, rfl⟩) rfl, rowSound_accForms (fun _ => ⟨rfl, rfl⟩) rfl,
    sound_done ⟨rfl, rfl⟩, sound_done ⟨rfl, rfl⟩,
    rowSound_dwForms (fun _ _ _ _ wf => ⟨wf, rfl⟩) rfl, rowSound_accForms (fun _ => ⟨rfl, rfl⟩) rfl,
    sound_done ⟨rfl, rfl⟩, sound_done ⟨rfl, rfl⟩⟩

theorem rowSound_map3 : RowSound 0x30 map3 := by
  simp only [map3, rowSound_append, rowSound_cons, rowSound_nil, and_true, and_assoc]
  exact ⟨rowSound_dwForms (fun _ _ _ _ wf => ⟨wf, rfl⟩) rfl, rowSound_accForms (fun _ => ⟨rfl, rfl⟩) rfl,
    sound_done ⟨rfl, rfl⟩, sound_done ⟨rfl, rfl⟩,
    rowSound_dwForms (fun _ _ _ _ wf => ⟨wf, rfl⟩) rfl, rowSound_accForms (fun _ => ⟨rfl, rfl⟩) rfl,
    sound_done ⟨rfl, rfl⟩, sound_done ⟨rfl, rfl⟩⟩

theorem rowSound_map4 : RowSound 0x40 map4 := by
  simp only [map4, rowSound_append]
  exact ⟨rowSound_regOps (fun _ => ⟨rfl, rfl⟩) rfl, rowSound_regOps (fun _ => ⟨rfl, rfl⟩) rfl⟩

theorem rowSound_map5 : RowSound 0x50 map5 := by
  simp only [map5, rowSound_append]
  exact ⟨rowSound_regOps (fun _ => ⟨rfl, rfl⟩) rfl, rowSound_regOps (fun _ => ⟨rfl, rfl⟩) rfl⟩

theorem rowSound_map7 : RowSound 0x70 map7 := by
  simp only [map7, rowSound_cons, rowSound_nil, and_true]
  refine ⟨?_, ?_, ?_, ?_, ?_, ?_, ?_, ?_, ?_, ?_, ?_, ?_, ?_, ?_, ?_, ?_⟩
  all_goals exact sound_imm8 fun _ => ⟨rfl, rfl⟩

theorem rowSound_map8 : RowSound 0x80 map8 := by
  simp only [map8, rowSound_append, rowSound_cons, rowSound_nil, and_true, and_assoc]
  exact ⟨sound_immGroup80, sound_immGroup81, sound_immGroup82, sound_immGroup83,
    rowSound_wForms (fun _ _ _ wf => ⟨wf, rfl⟩) rfl, rowSound_wForms (fun _ _ _ wf => ⟨wf, rfl⟩) rfl,
    rowSound_dwForms (fun _ _ _ _ wf => ⟨wf, rfl⟩) rfl, sound_storeSreg, sound_regMem fun _ _ wf => ⟨wf, rfl⟩,
    sound_loadSreg, sound_popGroup⟩

theorem rowSound_map9 : RowSound 0x90 map9 := by
  simp only [map9, rowSound_cons, rowSound_nil, and_true]
  refine ⟨?_, ?_, ?_, ?_, ?_, ?_, ?_, ?_, ?_, ?_, sound_farPtr fun _ _ => ⟨rfl, rfl⟩, ?_, ?_, ?_, ?_, ?_⟩
  all_goals exact sound_done ⟨rfl, rfl⟩

theorem rowSound_mapA : RowSound 0xA0 mapA := by
  simp only [mapA, rowSound_append, rowSound_cons, rowSound_nil, and_true, and_assoc]
  exact ⟨sound_imm16 fun _ => ⟨rfl, rfl⟩, sound_imm16 fun _ => ⟨rfl, rfl⟩, sound_imm16 fun _ => ⟨rfl, rfl⟩,
    sound_imm16 fun _ => ⟨rfl, rfl⟩, rowSound_wOps (fun _ => ⟨rfl, rfl⟩) rfl, rowSound_wOps (fun _ => ⟨rfl, rfl⟩) rfl,
    rowSound_accForms (fun _ => ⟨rfl, rfl⟩) rfl, rowSound_wOps (fun _ => ⟨rfl, rfl⟩) rfl,
    rowSound_wOps (fun _ => ⟨rfl, rfl⟩) rfl, rowSound_wOps (fun _ => ⟨rfl, rfl⟩) rfl⟩

theorem rowSound_mapB : RowSound 0xB0 mapB := by
  simp only [mapB, rowSound_append]
  exact ⟨rowSound_regImms (op := 0x16) (fun _ _ width => ⟨rfl, by simp [encode, width, Encode.wBit]⟩) rfl,
    rowSound_regImms (op := 0x17) (fun _ _ width => ⟨rfl, by simp [encode, width, Encode.wBit]⟩) rfl⟩

theorem rowSound_mapC : RowSound 0xC0 mapC := by
  simp only [mapC, rowSound_cons, rowSound_nil, and_true]
  exact ⟨sound_fail _, sound_fail _, sound_imm16 fun _ => ⟨rfl, rfl⟩, sound_done ⟨rfl, rfl⟩,
    sound_regMem fun _ _ wf => ⟨wf, rfl⟩, sound_regMem fun _ _ wf => ⟨wf, rfl⟩, sound_movImm rfl, sound_movImm rfl,
    sound_fail _, sound_fail _, sound_imm16 fun _ => ⟨rfl, rfl⟩, sound_done ⟨rfl, rfl⟩,
    sound_done ⟨rfl, rfl⟩, sound_imm8 fun _ => ⟨rfl, rfl⟩, sound_done ⟨rfl, rfl⟩, sound_done ⟨rfl, rfl⟩⟩

theorem rowSound_mapD : RowSound 0xD0 mapD := by
  simp only [mapD, rowSound_cons, rowSound_nil, and_true]
  exact ⟨sound_shiftGroup rfl, sound_shiftGroup rfl, sound_shiftGroup rfl, sound_shiftGroup rfl,
    sound_adjust ⟨rfl, rfl⟩, sound_adjust ⟨rfl, rfl⟩, sound_fail _, sound_done ⟨rfl, rfl⟩,
    sound_escape 0, sound_escape 1, sound_escape 2, sound_escape 3,
    sound_escape 4, sound_escape 5, sound_escape 6, sound_escape 7⟩

theorem rowSound_mapE : RowSound 0xE0 mapE := by
  simp only [mapE, rowSound_append, rowSound_cons, rowSound_nil, and_true, and_assoc]
  refine ⟨?_, ?_, ?_, ?_, ?_, ?_, ?_, ?_, sound_imm16 fun _ => ⟨rfl, rfl⟩, sound_imm16 fun _ => ⟨rfl, rfl⟩,
    sound_farPtr fun _ _ => ⟨rfl, rfl⟩, ?_, rowSound_wOps (fun _ => ⟨rfl, rfl⟩) rfl,
    rowSound_wOps (fun _ => ⟨rfl, rfl⟩) rfl⟩
  all_goals exact sound_imm8 fun _ => ⟨rfl, rfl⟩

theorem rowSound_mapF : RowSound 0xF0 mapF := by
  simp only [mapF, rowSound_cons, rowSound_nil, and_true]
  refine ⟨?_, sound_fail _, ?_, ?_, ?_, ?_, sound_unaryGroup rfl, sound_unaryGroup rfl, ?_, ?_, ?_, ?_, ?_, ?_,
    sound_byteGroup, sound_wordGroup⟩
  all_goals exact sound_done ⟨rfl, rfl⟩

theorem rowSound_maps (r : Nat) (inMaps : r < 16) : RowSound (16 * r) (maps.getD r []) := by
  interval_cases r
  exacts [rowSound_map0, rowSound_map1, rowSound_map2, rowSound_map3, rowSound_map4, rowSound_map5,
    (rowSound_nil _).2 trivial, rowSound_map7, rowSound_map8, rowSound_map9, rowSound_mapA, rowSound_mapB,
    rowSound_mapC, rowSound_mapD, rowSound_mapE, rowSound_mapF]

/-- The place of a decoder in the map is the opcode after which it is sound. -/
theorem sound_ofOpcode (op : Byte) : (ofOpcode op).Sound [op] := by
  have inMaps : op.toNat / 16 < 16 := by have := op.isLt; omega
  have sound := (rowSound_maps _ inMaps).getD (op.toNat % 16) (.unassigned op)
  have column : BitVec.ofNat 8 (16 * (op.toNat / 16) + op.toNat % 16) = op := by
    rw [Nat.div_add_mod, BitVec.ofNat_toNat, BitVec.setWidth_eq]
  rwa [column] at sound

theorem sound_instruction : instruction.Sound [] := sound_byte fun op => sound_ofOpcode op

end Decoder
end Sys2Proof
end

section
/-! Every encoding decodes (30_encoding.md rules R98, R100 and R101): each format reads what the encoder writes, and the
first byte the encoder writes selects that format. With what decodes being an encoding, the decoder and the encoder are
inverse to each other. -/

namespace Sys2Proof

namespace Decoder

variable {d : Decoder} {tail : List Byte} {i : Instr}

theorem reads_imm16 {k : Word → Instr} (v : Word) (row : d = imm16 k) : d.Reads (Encode.word v) (k v) :=
  row ▸ reads_word.2 ⟨v, [], by simp, rfl⟩

/-- The same for a word that is one of two operands. -/
theorem reads_immWord {α β : Type} {k : α → β → Instr} {c : Word → α} {x : β} (v : Word)
    (row : d = imm16 fun v => k (c v) x) : d.Reads (Encode.word v) (k (c v) x) :=
  reads_imm16 (k := fun v => k (c v) x) v row

theorem reads_imm {w : Width} {k : Imm → Instr} (v : Imm) (width : Encode.immWidth v = Encode.wBit w)
    (row : d = imm w k) : d.Reads (Encode.immBytes v) (k v) := by
  subst row
  cases v with
  | byte v => cases w with
    | byte => rfl
    | word => cases width
  | word v => cases w with
    | byte => cases width
    | word => exact reads_imm16 v rfl

theorem reads_farPtr {k : Word → Word → Instr} (off sgm : Word) (row : d = farPtr k) :
    d.Reads (Encode.word off ++ Encode.word sgm) (k off sgm) :=
  row ▸ reads_word.2 ⟨off, Encode.word sgm, rfl, reads_imm16 sgm rfl⟩

theorem reads_regRm {k : Rm → Reg → Instr} {m : Rm} {r : Reg} (wf : m.wf = true)
    (row : d = regRm fun r m => k m r) : d.Reads (Encode.rm r.bits m) (k m r) :=
  row ▸ reads_modrm.2 ⟨r.bits, m, [], wf, by simp, congrArg (k m) (Reg.ofBits_bits r)⟩

theorem reads_regMem {op : Byte} {k : Reg → MemRef → Instr} {r : Reg} {m : MemRef} (wf : m.wf = true)
    (row : d = regMem op k) : d.Reads (Encode.rm r.bits (.mem m)) (k r m) :=
  row ▸ (reads_modrm (k := fun reg => fun
      | .mem m => .done (k (Reg.ofBits reg) m)
      | .reg _ => .fail (.registerForm op))).2
    ⟨r.bits, .mem m, [], wf, by simp, congrArg (k · m) (Reg.ofBits_bits r)⟩

theorem reads_group_imm {members : List (Rm → Decoder)} {op : Byte} {reg : BitVec 3} {m : Rm}
    (row : d = group members op) (wf : m.wf = true)
    (member : ((members.getD reg.toNat fun _ => .fail (.extension op reg)) m).Reads tail i) :
    d.Reads (Encode.rm reg m ++ tail) i := row ▸ reads_modrm.2 ⟨reg, m, tail, wf, rfl, member⟩

theorem reads_group {members : List (Rm → Decoder)} {op : Byte} {reg : BitVec 3} {m : Rm}
    (row : d = group members op) (wf : m.wf = true)
    (member : ((members.getD reg.toNat fun _ => .fail (.extension op reg)) m).Reads [] i) :
    d.Reads (Encode.rm reg m) i := by simpa using reads_group_imm row wf member

/-- The first byte selects the decoder that reads the rest. -/
theorem reads_instruction {op : Byte} (enc : encode i = op :: tail) (reads : (ofOpcode op).Reads tail i) :
    instruction.Reads (encode i) i := enc ▸ reads

/-! ### The groups in the first-byte map -/

theorem ofOpcode_shift (w : Width) (v : Count) : ofOpcode ((0x34 : BitVec 6) ++ Encode.vBit v ++ Encode.wBit w)
    = shiftGroup ((0x34 : BitVec 6) ++ Encode.vBit v ++ Encode.wBit w) w v := by cases w <;> cases v <;> rfl

theorem ofOpcode_unary (w : Width) : ofOpcode ((0x7B : BitVec 7) ++ Encode.wBit w)
    = unaryGroup ((0x7B : BitVec 7) ++ Encode.wBit w) w := by cases w <;> rfl

theorem ofOpcode_movImm (w : Width) : ofOpcode ((0x63 : BitVec 7) ++ Encode.wBit w)
    = group [fun rm => imm w fun v => .movRmImm v rm] ((0x63 : BitVec 7) ++ Encode.wBit w) := by cases w <;> rfl

theorem ofOpcode_80 : ofOpcode 0x80 = immGroup 0x80 := rfl
theorem ofOpcode_81 : ofOpcode 0x81 = immGroup 0x81 := rfl
theorem ofOpcode_82 : ofOpcode 0x82 = immGroup 0x82 := rfl
theorem ofOpcode_83 : ofOpcode 0x83 = immGroup 0x83 := rfl
theorem ofOpcode_8E : ofOpcode 0x8E = loadSreg 0x8E := rfl
theorem ofOpcode_8F : ofOpcode 0x8F = group [fun rm => .done (.popRm rm)] 0x8F := rfl
theorem ofOpcode_FE :
    ofOpcode 0xFE = group [fun rm => .done (.incRm .byte rm), fun rm => .done (.decRm .byte rm)] 0xFE := rfl
theorem ofOpcode_FF : ofOpcode 0xFF = wordGroup 0xFF := rfl

theorem reads_storeSreg {m : Rm} {sr : SReg} (wf : m.wf = true) :
    (ofOpcode 0x8C).Reads (Encode.rm ((0 : BitVec 1) ++ sr.bits) m) (.movRmSreg m sr) := by
  show (storeSreg 0x8C).Reads _ _
  exact reads_modrm.2 ⟨_, m, [], wf, (List.append_nil _).symm, by cases sr <;> rfl⟩

theorem ofOpcode_escape (high : BitVec 3) : ofOpcode ((0x1B : BitVec 5) ++ high) = escape high := by
  have values : high ∈ [0, 1, 2, 3, 4, 5, 6, 7] := by revert high; decide
  fin_cases values <;> rfl

/-- The six x bits are those of the two bytes. -/
theorem reads_escape (op : BitVec 6) {m : Rm} (wf : m.wf = true) :
    (ofOpcode ((0x1B : BitVec 5) ++ op.extractLsb' 3 3)).Reads (Encode.rm (op.extractLsb' 0 3) m) (.esc op m) := by
  have bits : op.extractLsb' 3 3 ++ op.extractLsb' 0 3 = op := by revert op; decide
  rw [ofOpcode_escape]
  exact reads_modrm.2 ⟨_, m, [], wf, (List.append_nil _).symm, congrArg (Instr.esc · m) bits⟩

/-- The decoder reads the encoding of every well-formed instruction. The cases follow the formats of rule R82. -/
theorem reads_encode (i : Instr) (wf : i.wf = true) : instruction.Reads (encode i) i := by
  cases i with
  | addRmReg w d m r | orRmReg w d m r | adcRmReg w d m r | sbbRmReg w d m r | andRmReg w d m r | subRmReg w d m r
  | xorRmReg w d m r | cmpRmReg w d m r | movRmReg w d m r =>
    cases w <;> cases d <;> exact reads_instruction rfl (reads_regRm wf rfl)
  | testRmReg w m r | xchgRmReg w m r => cases w <;> exact reads_instruction rfl (reads_regRm wf rfl)
  | addAccImm v | orAccImm v | adcAccImm v | sbbAccImm v | andAccImm v | subAccImm v | xorAccImm v | cmpAccImm v
  | testAccImm v =>
    cases v with
    | byte v => exact reads_instruction (op := _ ++ (0 : BitVec 1)) rfl (reads_imm (.byte v) (w := .byte) rfl rfl)
    | word v => exact reads_instruction (op := _ ++ (1 : BitVec 1)) rfl (reads_imm (.word v) (w := .word) rfl rfl)
  | addRmImm v m | adcRmImm v m | sbbRmImm v m | subRmImm v m | cmpRmImm v m =>
    cases v with
    | op80 v => exact reads_instruction (Encode.arithForm_op80 ..) (reads_group_imm ofOpcode_80 wf rfl)
    | op81 v =>
      exact reads_instruction (Encode.arithForm_op81 ..) (reads_group_imm ofOpcode_81 wf (reads_immWord v rfl))
    | op82 v => exact reads_instruction (Encode.arithForm_op82 ..) (reads_group_imm ofOpcode_82 wf rfl)
    | op83 v => exact reads_instruction (Encode.arithForm_op83 ..) (reads_group_imm ofOpcode_83 wf rfl)
  | orRmImm v m | andRmImm v m | xorRmImm v m =>
    cases v with
    | byte v => exact reads_instruction (Encode.logicForm_byte ..) (reads_group_imm ofOpcode_80 wf rfl)
    | word v =>
      exact reads_instruction (Encode.logicForm_word ..) (reads_group_imm ofOpcode_81 wf (reads_immWord v rfl))
  | rol w v m | ror w v m | rcl w v m | rcr w v m | shl w v m | shr w v m | sar w v m =>
    exact reads_instruction rfl (reads_group (ofOpcode_shift w v) wf rfl)
  | testRmImm v m =>
    cases v with
    | byte v => exact reads_instruction rfl (reads_group_imm (ofOpcode_unary .byte) wf rfl)
    | word v => exact reads_instruction rfl (reads_group_imm (ofOpcode_unary .word) wf (reads_immWord v rfl))
  | not w m | neg w m | mul w m | imul w m | div w m | idiv w m =>
    exact reads_instruction rfl (reads_group (ofOpcode_unary w) wf rfl)
  | pushSreg r | seg r => cases r <;> rfl
  | incR16 r | decR16 r | pushR16 r | popR16 r => cases r <;> rfl
  | xchgAxDxBx r => cases r with
    | dxDl | bxBl => rfl
    | _ => cases wf
  | xchgAxIndex r => cases r with
    | spAh | bpCh | siDh | diBh => rfl
    | _ => cases wf
  | movs w | cmps w | stos w | lods w | scas w | inDx w | outDx w | inImm w p | outImm w p => cases w <;> rfl
  | movAccMem w a | movMemAcc w a => cases w <;> exact reads_instruction rfl (reads_imm16 a rfl)
  | retNearImm n | retFarImm n | callNear n | jmpNear n => exact reads_instruction rfl (reads_imm16 n rfl)
  | callFar off sgm | jmpFar off sgm => exact reads_instruction rfl (reads_farPtr off sgm rfl)
  | lea r m | les r m | lds r m => exact reads_instruction rfl (reads_regMem wf rfl)
  | movRegImm v r =>
    cases v with
    | byte v =>
      refine reads_instruction (op := (0xB : BitVec 4) ++ (0 : BitVec 1) ++ r.bits) rfl ?_
      cases r <;> rfl
    | word v =>
      refine reads_instruction (op := (0xB : BitVec 4) ++ (1 : BitVec 1) ++ r.bits) rfl ?_
      cases r <;> exact reads_immWord v rfl
  | movRmImm v m =>
    cases v with
    | byte v => exact reads_instruction rfl (reads_group_imm (ofOpcode_movImm .byte) wf rfl)
    | word v => exact reads_instruction rfl (reads_group_imm (ofOpcode_movImm .word) wf (reads_immWord v rfl))
  | movRmSreg m sr => exact reads_instruction rfl (reads_storeSreg wf)
  | esc op m => exact reads_instruction rfl (reads_escape op wf)
  | movEsRm m | movSsRm m | movDsRm m => exact reads_instruction rfl (reads_group ofOpcode_8E wf rfl)
  | popRm m => exact reads_instruction rfl (reads_group ofOpcode_8F wf rfl)
  | incRm w m | decRm w m =>
    cases w with
    | byte => exact reads_instruction rfl (reads_group ofOpcode_FE wf rfl)
    | word => exact reads_instruction rfl (reads_group ofOpcode_FF wf rfl)
  | callRm m | jmpRm m | pushRm m => exact reads_instruction rfl (reads_group ofOpcode_FF wf rfl)
  | callFarMem m | jmpFarMem m => exact reads_instruction rfl (reads_group (m := .mem m) ofOpcode_FF wf rfl)
  | _ => rfl

end Decoder
end Sys2Proof

namespace Sys2Proof.Laws.EncodeLength

/-- The encoding of an instruction is one to six bytes long, whichever it is. -/
theorem encode_length (i : Instr) : Statement i := by
  cases i
  exacts [addRmReg .., addRmImm .., addAccImm .., orRmReg .., orRmImm .., orAccImm .., adcRmReg .., adcRmImm ..,
    adcAccImm .., sbbRmReg .., sbbRmImm .., sbbAccImm .., andRmReg .., andRmImm .., andAccImm .., subRmReg ..,
    subRmImm .., subAccImm .., xorRmReg .., xorRmImm .., xorAccImm .., cmpRmReg .., cmpRmImm .., cmpAccImm ..,
    pushSreg .., popEs, popSs, popDs, seg .., daa, das, aaa, aas, incR16 .., decR16 .., pushR16 .., popR16 ..,
    jo .., jno .., jb .., jnb .., je .., jne .., jbe .., jnbe .., js .., jns .., jp .., jnp .., jl .., jnl ..,
    jle .., jnle .., testRmReg .., xchgRmReg .., movRmReg .., movRmSreg .., lea .., movEsRm .., movSsRm ..,
    movDsRm .., popRm .., nop, xchgAxCx, xchgAxDxBx .., xchgAxIndex .., cbw, cwd, callFar .., wait, pushf, popf,
    sahf, lahf, movAccMem .., movMemAcc .., movs .., cmps .., stos .., lods .., scas .., testAccImm ..,
    movRegImm .., retNearImm .., retNear, les .., lds .., movRmImm .., retFarImm .., retFar, int3, int .., into,
    iret, rol .., ror .., rcl .., rcr .., shl .., shr .., sar .., aam, aad, xlat, esc .., loopnz .., loopz ..,
    loop .., jcxz .., inImm .., outImm .., callNear .., jmpNear .., jmpFar .., jmpShort .., inDx .., outDx ..,
    lock, repne, rep, hlt, cmc, testRmImm .., not .., neg .., mul .., imul .., div .., idiv .., clc, stc, cli, sti,
    cld, std, incRm .., decRm .., callRm .., callFarMem .., jmpRm .., jmpFarMem .., pushRm ..]

end Sys2Proof.Laws.EncodeLength

namespace Sys2Proof

/-- Settles O2: the decoder reads the encoding, and a run looks no further. -/
theorem decodeOfEncode : Obligations.DecodeOfEncode := fun i rest wf =>
  Decoder.run_eq_ok_iff.2 ⟨encode i, rest, rfl, (Nat.zero_add _).symm, Decoder.reads_encode i wf⟩

/-- Settles O3: the bytes a run takes are those the decoder reads, and it reads nothing but encodings. -/
theorem encodeOfDecode : Obligations.EncodeOfDecode := fun bs i n decoded => by
  obtain ⟨used, rest, rfl, rfl, reads⟩ := Decoder.run_eq_ok_iff.1 decoded
  obtain ⟨wf, rfl⟩ : i.wf = true ∧ encode i = used := Decoder.sound_instruction used i reads
  obtain ⟨atLeast, atMost⟩ := Laws.EncodeLength.encode_length i
  exact ⟨wf, by simp, by simpa using atLeast, by simpa using atMost⟩

end Sys2Proof
end

section
/-! The repetition of the string instructions (43_string.md rules R240 to R242, 92_eei_decisions.md D14). What one
element does turns on the repeat kind nowhere: it commutes with a change of it (`State.withRep`), over every access it
is made of. So a turn is the unrepeated element and, after it, the count of CX. -/

namespace Sys2Proof.Machine

/-! ## The repeat kind and the bus -/

/-- The state with another repeat kind in its prefixes. -/
def State.withRep (s : State) (r : Option RepKind) : State := s.setPre { s.pre with rep := r }

section
variable (s : State) (r : Option RepKind)

theorem State.store_withRep (a : Nat) (v : Byte) : (s.withRep r).store a v = (s.store a v).withRep r := by
  unfold State.store
  by_cases ram : s.kindAt a = .ram
  · rw [if_pos ram, if_pos (show (s.withRep r).kindAt a = .ram from ram)]
    rfl
  · rw [if_neg ram, if_neg (show ¬ (s.withRep r).kindAt a = .ram from ram)]

theorem State.masterWrites_withRep (ws : List MasterWrite) :
    (s.withRep r).masterWrites ws = (s.masterWrites ws).withRep r := by
  induction ws generalizing s with
  | nil => rfl
  | cons w ws ih =>
    show ((s.withRep r).store _ _).masterWrites ws = _
    rw [s.store_withRep]
    exact ih _

theorem State.gap_withRep : (s.withRep r).gap = s.gap.withRep r := by
  cases locked : s.busLocked with
  | true => rw [State.gap_of_locked locked, State.gap_of_locked (s := s.withRep r) locked]
  | false =>
    cases waiting : s.env.waiting with
    | nil => rw [State.gap_of_noneWaiting s waiting, State.gap_of_noneWaiting (s.withRep r) waiting]
    | cons ws rest =>
      rw [State.gap_of_free locked waiting, State.gap_of_free (s := s.withRep r) locked waiting]
      exact State.masterWrites_withRep (s.setEnv { s.env with waiting := rest }) r ws

theorem State.busCycle_withRep {f : State → State} (h : ∀ t : State, f (t.withRep r) = (f t).withRep r) :
    (s.withRep r).busCycle f = (s.busCycle f).withRep r := by
  have same : (s.withRep r).env.cut = s.env.cut := rfl
  unfold State.busCycle
  rw [same]
  match s.env.cut with
  | none => exact h s
  | some 0 => rfl
  | some (k + 1) => exact h (s.setEnv { s.env with cut := some k })

theorem State.busByte_withRep (a : Nat) : (s.withRep r).busByte a = s.busByte a := rfl

theorem State.afterRead_withRep (a : Nat) : (s.withRep r).afterRead a = (s.afterRead a).withRep r := by
  unfold State.afterRead
  rw [show (s.withRep r).kindAt a = s.kindAt a from rfl]
  cases s.kindAt a with
  | device => exact s.busCycle_withRep r fun _ => rfl
  | _ => rfl

theorem State.writeByte_withRep (a : Nat) (v : Byte) : (s.withRep r).writeByte a v = (s.writeByte a v).withRep r := by
  refine s.busCycle_withRep r fun t => ?_
  by_cases device : t.kindAt a = .device
  · rw [if_pos device, if_pos (show (t.withRep r).kindAt a = .device from device)]
    rfl
  · rw [if_neg device, if_neg (show ¬ (t.withRep r).kindAt a = .device from device)]
    exact t.store_withRep r a v

theorem State.readSeg_withRep (sg off : Word) (w : Width) : (s.withRep r).readSeg sg off w = s.readSeg sg off w := by
  cases w with
  | byte => rfl
  | word => simp only [State.readSeg, State.afterRead_withRep, State.busByte_withRep]

theorem State.afterSeg_withRep (sg off : Word) (w : Width) :
    (s.withRep r).afterSeg sg off w = (s.afterSeg sg off w).withRep r := by
  cases w <;> simp only [State.afterSeg, State.afterRead_withRep, State.gap_withRep]

theorem State.writeSeg_withRep (sg off : Word) (w : Width) (v : BitVec w.bits) :
    (s.withRep r).writeSeg sg off w v = (s.writeSeg sg off w v).withRep r := by
  cases w <;> simp only [State.writeSeg, State.writeByte_withRep, State.gap_withRep]

end

/-! ## An element -/

/-- Whether the primitive is CMPS or SCAS, whose repetition looks at ZF. -/
def InProgress.compares (p : InProgress) : Bool :=
  match p with
  | .cmps _ | .scas _ => true
  | _ => false

/-- One element of the primitive. -/
def InProgress.element (p : InProgress) : State → State :=
  match p with
  | .movs w => State.movsElement w
  | .cmps w => State.cmpsElement w
  | .stos w => State.stosElement w
  | .lods w => State.lodsElement w
  | .scas w => State.scasElement w
  | .wait => id

theorem InProgress.compares_iff (p : InProgress) : p.compares = true ↔ ∃ w, p = .cmps w ∨ p = .scas w := by
  cases p <;> simp [InProgress.compares]

theorem exec_instr {p : InProgress} (notWait : p ≠ .wait) (s : State) :
    exec p.instr s = .next (s.stringTurn p p.compares p.element) := by
  cases p with
  | wait => exact absurd rfl notWait
  | _ => rfl

/-- An element does the same under every repeat kind. -/
theorem InProgress.element_withRep (p : InProgress) (s : State) (r : Option RepKind) :
    p.element (s.withRep r) = (p.element s).withRep r := by
  have segs : ∀ t : State, (t.withRep r).segs = t.segs := fun _ => rfl
  have regs : ∀ t : State, (t.withRep r).regs = t.regs := fun _ => rfl
  have source : (s.withRep r).segFor .ds = s.segFor .ds := rfl
  cases p with
  | wait => rfl
  | movs w =>
    simp only [InProgress.element, State.movsElement, State.afterSource, State.sourceElement,
      State.readSeg_withRep, State.afterSeg_withRep, State.writeSeg_withRep, segs, regs, source]
    rfl
  | cmps w =>
    simp only [InProgress.element, State.cmpsElement, State.afterSource, State.sourceElement, State.afterDest,
      State.destElement, State.readSeg_withRep, State.afterSeg_withRep, segs, regs, source]
    rfl
  | scas w =>
    simp only [InProgress.element, State.scasElement, State.afterDest, State.destElement,
      State.readSeg_withRep, State.afterSeg_withRep, segs, regs]
    rfl
  | lods w =>
    simp only [InProgress.element, State.lodsElement, State.afterSource, State.sourceElement,
      State.readSeg_withRep, State.afterSeg_withRep, regs, source]
    rfl
  | stos w =>
    simp only [InProgress.element, State.stosElement, State.writeSeg_withRep, segs, regs]
    rfl

@[simp] theorem State.stepSi_cx (s : State) (w : Width) : (s.stepSi w).regs.cx = s.regs.cx := rfl
@[simp] theorem State.stepDi_cx (s : State) (w : Width) : (s.stepDi w).regs.cx = s.regs.cx := rfl
@[simp] theorem Regs.set_axAl_cx (g : Regs) (w : Width) (v : BitVec w.bits) : (g.set w .axAl v).cx = g.cx := by
  cases w <;> rfl

/-- What no element changes. -/
structure ElementFrame (s t : State) : Prop where
  cx : t.regs.cx = s.regs.cx
  segs : t.segs = s.segs
  ip : t.ip = s.ip
  pre : t.pre = s.pre
  latches : t.latches = s.latches
  progress : t.progress = s.progress

theorem InProgress.element_frame (p : InProgress) (s : State) : ElementFrame s (p.element s) := by
  cases p with
  | wait => exact ⟨rfl, rfl, rfl, rfl, rfl, rfl⟩
  | movs w => constructor <;> simp [InProgress.element, State.movsElement]
  | cmps w => constructor <;> simp [InProgress.element, State.cmpsElement]
  | scas w => constructor <;> simp [InProgress.element, State.scasElement]
  | lods w => constructor <;> simp [InProgress.element, State.lodsElement]
  | stos w => constructor <;> simp [InProgress.element, State.stosElement]

/-! ## A turn -/

section
variable {s : State} {p : InProgress} {compares : Bool} {element : State → State}

theorem State.stringTurn_unrepeated (once : s.pre.rep = none) :
    s.stringTurn p compares element = (element s).lastTurn := by simp [State.stringTurn, once]

theorem State.stringTurn_spent {k : RepKind} (repeated : s.pre.rep = some k) (spent : s.regs.cx = 0) :
    s.stringTurn p compares element = s.lastTurn := by simp [State.stringTurn, repeated, spent]

theorem State.stringTurn_counted {k : RepKind} (repeated : s.pre.rep = some k) (left : s.regs.cx ≠ 0) :
    s.stringTurn p compares element = (element s).countDown.setProgress { (element s).progress with
      repeating := if (element s).countDown.repeatDone k compares then none else some p } := by
  simp only [State.stringTurn, repeated, if_neg left]
  split <;> rfl

theorem State.repeatDone_iff (s : State) (k : RepKind) (compares : Bool) :
    s.repeatDone k compares = true ↔ s.regs.cx = 0 ∨ (compares = true ∧ s.flags.zf ≠ k.z) := by
  simp [State.repeatDone]

end

theorem State.countDown_sameRegsBut (s : State) : SameRegsBut [.cxCl] s s.countDown := s.setReg16_sameRegsBut _ _

/-- Settles O34: the element is the unrepeated one, since it does not see the repeat kind, and CX is counted after
it. -/
theorem repeatedTurn : Obligations.RepeatedTurn := by
  intro s p k notWait repeated compares
  refine ⟨fun spent => ?_, fun left => ?_⟩
  · rw [exec_instr notWait, State.stringTurn_spent repeated spent]
    rfl
  have frame := p.element_frame s
  have done := (p.element s).countDown.repeatDone_iff k p.compares
  refine ⟨((p.element s).withRep none).lastTurn, ?_, _, exec_instr notWait s, ?_⟩
  · rw [exec_instr notWait, State.stringTurn_unrepeated rfl, ← p.element_withRep]
    rfl
  rw [State.stringTurn_counted repeated left, frame.progress]
  have cx : (p.element s).countDown.regs.cx = s.regs.cx - 1 := congrArg (· - 1) frame.cx
  refine ⟨cx, (p.element s).countDown_sameRegsBut, rfl, rfl, frame.segs, frame.ip, frame.pre, frame.latches, rfl,
    ?_, ?_, rfl, rfl⟩
  · rw [p.compares_iff] at done
    have ends : (if (p.element s).countDown.repeatDone k p.compares then none else some p) = none
        ↔ (p.element s).countDown.repeatDone k p.compares = true := by simp
    cases k <;> exact ends.trans done
  · by_cases ended : (p.element s).countDown.repeatDone k p.compares = true
    · exact .inl (if_pos ended)
    · exact .inr (if_neg ended)

end Sys2Proof.Machine
end

section
/-! REP STOSB run to its end (43_string.md rules R241 and R248; 92_eei_decisions.md D14): with nothing pending a step is
one turn of the loop, a turn stores one byte and counts it, and the run is an induction over the turns that composes
what they stored. -/

namespace Sys2Proof.Machine

/-! ## A step that runs one turn -/

/-- Where nothing is pending and TF was clear no interrupt is entered at a boundary. -/
theorem State.complete_quiet {t : State} (quiet : Quiet t) (window : t.latches.inhibit = false)
    (noTrap : t.progress.t0 = false) : t.complete = t.endInstr := by
  obtain ⟨-, noNmi, noIntr⟩ := quiet
  have none (ip : Word) : t.takeExternal ip = t := t.takeExternal_none ip noNmi (.inl noIntr)
  unfold State.complete
  split
  · rw [none]
  · simp [State.boundary, window, none, State.trapStep, noTrap]

theorem State.endInstr_env (t : State) : t.endInstr.env = t.env := by
  unfold State.endInstr; split <;> rfl

/-- With no event, no halt and nothing pending a step of an instruction in progress is its next turn. -/
theorem step_of_turn {s t : State} {p : InProgress} (plain : Plain s) (quiet : Quiet s)
    (window : s.latches.inhibit = false) (awake : s.latches.halted = false) (begun : s.progress.freshReset = false)
    (noTrap : s.progress.t0 = false) (turn : s.progress.repeating = some p) (effect : exec p.instr s = .next t)
    (env : t.env = s.env) (latches : t.latches = s.latches) (t0 : t.progress.t0 = s.progress.t0) :
    step s = .next t.endInstr := by
  have quietAfter : Quiet t := by unfold Quiet; rwa [env, latches]
  have alone : Plain t.endInstr := plain.of_env ((t.endInstr_env).trans env)
  have turned : s.turn = .next t.endInstr := by
    simp only [State.turn, awake, turn, effect, completeAnswer]
    rw [State.complete_quiet quietAfter (latches ▸ window) (t0 ▸ noTrap)]
    rfl
  unfold step cycle
  rw [State.takeInputs_nil s quiet.1, begun, if_neg Bool.false_ne_true, turned]
  exact congrArg Host.Outcome.next (State.finish_plain alone.2.1 alone.2.2)

/-! ## What a number of elements stored -/

/-- The address of element `i` of a run upward from ES:DI. -/
def State.stosbAt (s : State) (i : Nat) : Nat := phys s.segs.es (s.regs.di + BitVec.ofNat 16 i)

/-- From `s` to `t` so many bytes upward from ES:DI were filled with AL and counted in CX, and nothing else changed but
the prefixes and the place inside the instruction. -/
structure StosbFilled (n : Nat) (s t : State) : Prop where
  cx : t.regs.cx = s.regs.cx - BitVec.ofNat 16 n
  di : t.regs.di = s.regs.di + BitVec.ofNat 16 n
  ip : t.ip = s.ip
  flags : t.flags = s.flags
  segs : t.segs = s.segs
  regs : SameRegsBut [.cxCl, .diBh] s t
  filled : ∀ i, i < n → s.kindAt (s.stosbAt i) = .ram → t.byteAt (s.stosbAt i) = s.regs.get8 .axAl
  outside : SameBytesOutside ((List.range n).map s.stosbAt) s t
  latches : t.latches = s.latches
  env : t.env = s.env

section
variable {m n : Nat} {s u t : State}

theorem StosbFilled.al (h : StosbFilled n s t) : t.regs.get8 .axAl = s.regs.get8 .axAl :=
  congrArg loByte (h.regs .axAl (by decide))

theorem StosbFilled.stosbAt (h : StosbFilled m s u) (i : Nat) : u.stosbAt i = s.stosbAt (m + i) := by
  simp only [State.stosbAt, h.segs, h.di, BitVec.ofNat_add, BitVec.add_assoc]

theorem StosbFilled.kindAt (h : StosbFilled m s u) (a : Nat) : u.kindAt a = s.kindAt a :=
  State.kindAt_congr h.env a

/-- Runs compose: a byte both fill gets AL from either. -/
theorem StosbFilled.trans (h : StosbFilled m s u) (k : StosbFilled n u t) : StosbFilled (m + n) s t where
  cx := by rw [k.cx, h.cx, BitVec.ofNat_add, BitVec.sub_sub]
  di := by rw [k.di, h.di, BitVec.ofNat_add, BitVec.add_assoc]
  ip := k.ip.trans h.ip
  flags := k.flags.trans h.flags
  segs := k.segs.trans h.segs
  regs := fun r other => (k.regs r other).trans (h.regs r other)
  filled := fun i hi ram => by
    by_cases again : ∃ j < n, u.stosbAt j = s.stosbAt i
    · obtain ⟨j, hj, same⟩ := again
      rw [← same] at ram ⊢
      exact (k.filled j hj (h.kindAt _ ▸ ram)).trans h.al
    · have first : i < m := by
        by_contra late
        exact again ⟨i - m, by omega, by rw [h.stosbAt, Nat.add_sub_cancel' (by omega)]⟩
      exact (k.outside _ (.inl (by simpa using again))).trans (h.filled i first ram)
  outside := fun a away => by
    have later : a ∉ (List.range n).map u.stosbAt ∨ u.kindAt a ≠ .ram := by
      refine away.imp (fun out inLater => out ?_) fun noRam => by rwa [h.kindAt]
      obtain ⟨j, hj, rfl⟩ := List.mem_map.1 inLater
      exact List.mem_map.2 ⟨m + j, by simpa using hj, (h.stosbAt j).symm⟩
    have earlier : a ∉ (List.range m).map s.stosbAt ∨ s.kindAt a ≠ .ram := by
      refine away.imp_left fun out inEarlier => out ?_
      obtain ⟨j, hj, rfl⟩ := List.mem_map.1 inEarlier
      exact List.mem_map.2 ⟨j, List.mem_range.2 (by have := List.mem_range.1 hj; omega), rfl⟩
    exact (k.outside a later).trans (h.outside a earlier)
  latches := k.latches.trans h.latches
  env := k.env.trans h.env

end

/-! ## One turn of REP STOSB -/

/-- Between two turns of REP STOSB upward, with nothing pending. -/
structure StosbTurn (s : State) : Prop where
  plain : Plain s
  quiet : Quiet s
  window : s.latches.inhibit = false
  awake : s.latches.halted = false
  begun : s.progress.freshReset = false
  noTrap : s.progress.t0 = false
  repeated : s.pre.rep ≠ none
  turn : s.progress.repeating = some (.stos .byte)
  upward : s.flags.df = false

/-- The state after one element of STOSB that was counted. -/
def State.stosbCounted (s : State) : State := (s.stosElement .byte).countDown

theorem StosbTurn.counted_eq {s : State} (h : StosbTurn s) :
    s.stosbCounted = (s.store (s.stosbAt 0) (s.regs.get8 .axAl)).setRegs
      { s.regs with di := s.regs.di + 1, cx := s.regs.cx - 1 } := by
  have stored : s.writeSeg s.segs.es s.regs.di .byte (s.acc .byte) = s.store (s.stosbAt 0) (s.regs.get8 .axAl) := by
    rw [State.writeSeg_byte_plain h.plain, State.stosbAt, BitVec.add_zero]
    rfl
  unfold State.stosbCounted State.stosElement
  rw [stored]
  simp only [State.stepDi, State.countDown, State.setReg16, State.stringDelta, State.store_flags, State.store_regs,
    h.upward]
  rfl

theorem StosbTurn.filled {s : State} (h : StosbTurn s) (q : Prefixes) (g : Progress) :
    StosbFilled 1 s ((s.stosbCounted.setPre q).setProgress g) := by
  rw [h.counted_eq]
  exact {
    cx := rfl
    di := rfl
    ip := s.store_ip _ _
    flags := s.store_flags _ _
    segs := s.store_segs _ _
    regs := fun r other => by cases r <;> simp at other <;> rfl
    filled := fun i hi ram => by
      obtain rfl : i = 0 := by omega
      exact s.byteAt_store_same _ _ ram
    outside := fun a away => s.byteAt_store_other _ a _ (by simpa using away)
    latches := s.store_latches _ _
    env := s.store_env _ _ }

/-- A step is one element, counted; a further turn follows unless CX is now 0. -/
theorem StosbTurn.step_eq {s : State} (h : StosbTurn s) (left : s.regs.cx ≠ 0) :
    step s = .next (s.stosbCounted.setProgress { s.progress with
      repeating := if s.regs.cx - 1 = 0 then none else some (.stos .byte) }).endInstr := by
  obtain ⟨k, repeated⟩ := Option.ne_none_iff_exists'.1 h.repeated
  have frame := (InProgress.stos .byte).element_frame s
  have counted := h.filled s.stosbCounted.pre
  refine step_of_turn h.plain h.quiet h.window h.awake h.begun h.noTrap h.turn ?_ (counted _).env (counted _).latches
    rfl
  rw [exec_instr (by simp), State.stringTurn_counted repeated left, frame.progress]
  have last : s.stosbCounted.repeatDone k false = true ↔ s.regs.cx - 1 = 0 := by
    rw [State.repeatDone_iff, h.counted_eq]
    simp
  simp only [← last]
  rfl

/-- A turn that is not the last leaves the next one to run. -/
theorem StosbTurn.step_again {s : State} (h : StosbTurn s) (left : s.regs.cx ≠ 0) (more : s.regs.cx - 1 ≠ 0) :
    ∃ u, step s = .next u ∧ StosbFilled 1 s u ∧ StosbTurn u := by
  have counted := h.filled s.stosbCounted.pre { s.progress with repeating := some (.stos .byte) }
  have frame := (InProgress.stos .byte).element_frame s
  refine ⟨_, by rw [h.step_eq left, if_neg more]; rfl, counted, ?_⟩
  exact {
    plain := h.plain.of_env counted.env
    quiet := by unfold Quiet; rw [counted.env, counted.latches]; exact h.quiet
    window := counted.latches ▸ h.window
    awake := counted.latches ▸ h.awake
    begun := h.begun
    noTrap := h.noTrap
    repeated := frame.pre ▸ h.repeated
    turn := rfl
    upward := counted.flags ▸ h.upward }

/-- The last turn ends the instruction. -/
theorem StosbTurn.step_last {s : State} (h : StosbTurn s) (last : s.regs.cx = 1) :
    ∃ u, step s = .next u ∧ StosbFilled 1 s u
      ∧ u.progress.repeating = none ∧ u.pre = Prefixes.none ∧ u.progress.mid = false :=
  ⟨_, by rw [h.step_eq (by simp [last]), if_pos (by simp [last])]; rfl, h.filled Prefixes.none _, rfl, rfl, rfl⟩

/-- A count that fits in CX is not 0 there. -/
theorem ofNat_succ_ne_zero {n : Nat} (bound : n + 1 < 2 ^ 16) : BitVec.ofNat 16 (n + 1) ≠ 0 := fun zero => by
  have := congrArg BitVec.toNat zero
  rw [BitVec.toNat_ofNat, Nat.mod_eq_of_lt bound] at this
  cases this

/-- From a turn with a count left, as many steps as CX says end the instruction. -/
theorem stosb_run (n : Nat) {s : State} (h : StosbTurn s) (count : s.regs.cx = BitVec.ofNat 16 (n + 1))
    (bound : n + 1 < 2 ^ 16) : ∃ t, stepsTo (n + 1) s t ∧ StosbFilled (n + 1) s t
      ∧ t.progress.repeating = none ∧ t.pre = Prefixes.none ∧ t.progress.mid = false := by
  induction n generalizing s with
  | zero =>
    obtain ⟨u, answer, filled, ended⟩ := h.step_last count
    exact ⟨u, ⟨u, answer, rfl⟩, filled, ended⟩
  | succ n ih =>
    have fewer : s.regs.cx - 1 = BitVec.ofNat 16 (n + 1) := by
      rw [count, BitVec.ofNat_add]
      simp
    have left : s.regs.cx ≠ 0 := count ▸ ofNat_succ_ne_zero (by omega)
    have more : s.regs.cx - 1 ≠ 0 := fewer ▸ ofNat_succ_ne_zero (by omega)
    obtain ⟨u, answer, filled, again⟩ := h.step_again left more
    obtain ⟨t, steps, rest, ended⟩ := ih again (filled.cx.trans fewer) (by omega)
    exact ⟨t, ⟨u, answer, steps⟩, Nat.add_comm 1 _ ▸ filled.trans rest, ended⟩

/-- Settles O35: a run from the turn before the first element is the composition of its turns. -/
theorem repStosbFills : Obligations.RepStosbFills := by
  intro n s plain quiet window awake begun noTrap repeated turn upward count nonempty bound at'
  obtain ⟨m, rfl⟩ := Nat.exists_eq_succ_of_ne_zero nonempty.ne'
  obtain ⟨t, steps, filled, ended, pre, mid⟩ :=
    stosb_run m ⟨plain, quiet, window, awake, begun, noTrap, repeated, turn, upward⟩ count bound
  have cx : t.regs.cx = 0 := by rw [filled.cx, count, BitVec.sub_self]; rfl
  exact ⟨t, steps, cx, filled.di, ended, filled.ip, filled.flags, filled.segs, filled.regs, filled.filled,
    filled.outside, filled.latches, filled.env, pre, mid⟩

end Sys2Proof.Machine
end

section
/-! Worked encodings, the effective address table and the bytes that set the prefixes (30_encoding.md rules R87 to R97,
10_state.md rule R42). -/

namespace Sys2Proof

theorem Instr.Encoded.decode_eq {i : Instr} {bs : List Byte} (h : i.Encoded bs) : decode bs = .ok (i, bs.length) := by
  obtain ⟨wf, rfl⟩ := h
  simpa using decodeOfEncode i [] wf

/-- Settles O1: each of the encodings is the encoder's of the instruction it stands for. -/
theorem decodeWorkedEncodings : Obligations.DecodeWorkedEncodings := by
  refine ⟨?_, ?_, ?_, ?_, ?_, ?_, ?_, ?_, ?_, ?_, ?_, ?_⟩
  all_goals exact Instr.Encoded.decode_eq ⟨rfl, rfl⟩

namespace Machine

section
variable {s : State}

/-- An override holds for every form (30_encoding.md rule R90). -/
theorem State.memSeg_overridden {sr : SReg} (overridden : s.pre.segOvr = some sr) (m : MemRef) :
    s.memSeg m = s.segs.get sr := by simp [State.memSeg, State.segFor, overridden]

/-- Without one the form has its default. -/
theorem State.memSeg_default (plain : s.pre.segOvr = none) (m : MemRef) :
    s.memSeg m = s.segs.get (defaultSegment m) := by simp [State.memSeg, State.segFor, plain]

end

/-- The default is SS where BP is the base, and DS elsewhere. -/
theorem defaultSegment_based (b : Base) (d : Disp) :
    defaultSegment (.based b d) = if b = .bpSi ∨ b = .bpDi ∨ b = .bp then .ss else .ds := by cases b <;> rfl

/-- Settles O12: the offset is the sum of the form's registers and its displacement; the segment is the override, or
the form's default. -/
theorem effectiveAddressTable : Obligations.EffectiveAddressTable := by
  intro s d disp addr value
  have offset (b : Base) : s.memOff (.based b d) = baseValue s.regs b + disp := by
    subst value
    cases d <;> rfl
  refine ⟨offset .bxSi, offset .bxDi, offset .bpSi, offset .bpDi, offset .si, offset .di, offset .bp, offset .bx, rfl,
    fun m sr overridden => State.memSeg_overridden overridden m,
    fun plain => ⟨fun b onBp => ?_, fun b notBpSi notBpDi notBp => ?_, ?_⟩⟩
  · rw [State.memSeg_default plain, defaultSegment_based, if_pos onBp]
    rfl
  · rw [State.memSeg_default plain, defaultSegment_based, if_neg (by simp [notBpSi, notBpDi, notBp])]
    rfl
  · exact State.memSeg_default plain _

/-- A byte whose effect is to replace the prefixes changes nothing else. -/
theorem Completes.of_setPre {i : Instr} {s : State} {q : Prefixes} (effect : exec i s = .next (s.setPre q)) :
    Completes i s fun t => t.pre = q ∧ t.regs = s.regs ∧ t.segs = s.segs ∧ t.ip = s.ip ∧ t.flags = s.flags
      ∧ t.mem = s.mem ∧ t.latches = s.latches ∧ t.progress = s.progress ∧ t.env = s.env :=
  ⟨_, effect, rfl, rfl, rfl, rfl, rfl, rfl, rfl, rfl, rfl⟩

/-- Settles O47: each such byte replaces one piece of the prefixes. -/
theorem prefixesSetTheirLatch : Obligations.PrefixesSetTheirLatch := fun _ =>
  ⟨fun _ => .of_setPre rfl, .of_setPre rfl, .of_setPre rfl, .of_setPre rfl⟩

end Machine
end Sys2Proof
end

section
/-! Data transfer (40_data_transfer.md sections 1 to 5): MOV, PUSH, POP, XCHG and the loads of an address or a far
pointer. On a plain machine a read leaves the state as it is, so each instruction is its writes alone: a store to one
operand, a push, or the writes of one or two registers. -/

namespace Sys2Proof.Machine

/-! ## Registers beside the one written -/

theorem Regs.get_set_ne (g : Regs) {w : Width} {r q : Reg} (v : BitVec w.bits) (other : q ≠ r) :
    (g.set w r v).get w q = g.get w q := by
  cases w with
  | byte => exact Regs.get8_set8_ne g v other
  | word => exact Regs.get16_set16_ne g v other

theorem SameRegsBut.refl (rs : List Reg) (s : State) : SameRegsBut rs s s := fun _ _ => rfl

theorem SameRegsBut.of_set16 {s t : State} {r : Reg} {v : Word} (regs : t.regs = s.regs.set16 r v) :
    SameRegsBut [r] s t := fun q hq => by
  rw [regs]
  exact s.setReg16_sameRegsBut r v q hq

/-- A register that is named may be written once more. -/
theorem SameRegsBut.setReg16 {rs : List Reg} {s t : State} (h : SameRegsBut rs s t) {r : Reg} (named : r ∈ rs)
    (v : Word) : SameRegsBut rs s (t.setReg16 r v) := fun q notNamed =>
  (Regs.get16_set16_ne t.regs v (ne_of_mem_of_not_mem named notNamed).symm).trans (h q notNamed)

/-- A byte register is half of AX, CX, DX or BX, so its write leaves the others (10_state.md rule R22). -/
theorem SameRegsBut.setReg_byte {s t : State} (h : SameRegsBut [.axAl, .cxCl, .dxDl, .bxBl] s t) (r : Reg) (v : Byte) :
    SameRegsBut [.axAl, .cxCl, .dxDl, .bxBl] s (t.setReg .byte r v) := fun q notHalved =>
  ((t.setReg_sameRegsOutside .byte r v).2 q notHalved).trans (h q notHalved)

/-- A result of byte width, in a register or in memory, leaves the pointer and index registers. -/
theorem SameRegsOutside.sameRegsBut_of_byte {dst : Rm} {s t : State} (h : SameRegsOutside .byte dst s t) :
    SameRegsBut [.axAl, .cxCl, .dxDl, .bxBl] s t := by
  cases dst with
  | reg r => exact h.2
  | mem m =>
    have regs : t.regs = s.regs := h
    exact fun q _ => by rw [regs]

/-- A change of the registers named, and of nothing else, keeps all that `FrameRegs` keeps. -/
theorem FrameRegs.of_setRegs {rs : List Reg} {s : State} {g : Regs} (kept : SameRegsBut rs s (s.setRegs g)) :
    FrameRegs rs s (s.setRegs g) := ⟨kept, fun _ _ => rfl, rfl, rfl, rfl, rfl, rfl, rfl⟩

/-! ## MOV -/

section
variable {s : State} (plain : Plain s) {i : Instr}
include plain

/-- An instruction whose effect is one store to an operand. -/
theorem Completes.of_writeRm {w : Width} {dst : Rm} {v : BitVec w.bits} (effect : exec i s = .next (s.writeRm w dst v)) :
    Completes i s fun t => Holds s t w dst v ∧ t.flags = s.flags ∧ FrameOf w dst s t :=
  ⟨_, effect, State.writeRm_holds plain w dst v, s.writeRm_flags w dst v, State.writeRm_frame plain w dst v⟩

theorem exec_movRmReg_plain (w : Width) (d : Dir) (rm : Rm) (reg : Reg) : exec (.movRmReg w d rm reg) s
    = .next (s.writeRm w (destOperand d rm reg) (s.sourceOperand w d rm reg)) := by
  show Host.Outcome.next ((s.afterRm w (sourceRm d rm reg)).writeRm w _ _) = _
  rw [State.afterRm_plain plain]

theorem exec_movAccMem_plain (w : Width) (addr : Word) :
    exec (.movAccMem w addr) s = .next (s.writeRm w (.reg .axAl) (s.readRm w (.mem (.direct addr)))) := by
  show Host.Outcome.next ((s.afterRm w (.mem (.direct addr))).setAcc w (s.readRm w (.mem (.direct addr)))) = _
  rw [State.afterRm_plain plain]
  rfl

end

/-- Settles O14: each form of MOV stores its source to its destination. -/
theorem movMovesSource : Obligations.MovMovesSource := by
  intro s plain moves
  exact ⟨fun w rm reg => Completes.of_writeRm plain (exec_movRmReg_plain plain w .fromReg rm reg),
    fun w rm reg => Completes.of_writeRm plain (exec_movRmReg_plain plain w .toReg rm reg),
    fun v rm => Completes.of_writeRm plain rfl, fun v rm => Completes.of_writeRm plain rfl,
    fun v reg => Completes.of_writeRm plain rfl, fun v reg => Completes.of_writeRm plain rfl,
    fun w addr => Completes.of_writeRm plain (exec_movAccMem_plain plain w addr),
    fun w addr => Completes.of_writeRm plain rfl, fun rm sr => Completes.of_writeRm plain rfl⟩

/-! ## PUSH and POP -/

theorem State.pushReg_of_ne_sp (s : State) {r : Reg} (notSp : r ≠ .spAh) :
    s.pushReg r = s.push16 (s.regs.get16 r) := by
  cases r with
  | spAh => exact absurd rfl notSp
  | _ => rfl

section
variable {s : State} (plain : Plain s)
include plain

/-- An instruction whose effect is one push. -/
theorem Pushes.of_push16 {i : Instr} {v : Word} (effect : exec i s = .next (s.push16 v)) : Pushes i s v := by
  have sp : (s.push16 v).regs.sp = s.regs.sp - 2 := congrArg Regs.sp (s.push16_regs v)
  refine ⟨_, effect, sp, fun ram => ?_, s.push16_flags v, .of_set16 (s.push16_regs v), State.push16_sameBytes plain v,
    ?_⟩
  · rw [State.stackWord_zero, State.top16, sp, State.push16_segs, State.top16_push16 plain v ram]
  · simp [SameControl, SameHidden, (State.push16_env_plain plain v).1]

end

/-- Settles O16: each form is one push of its word. -/
theorem pushStoresWord : Obligations.PushStoresWord := by
  intro s plain
  refine ⟨fun r notSp => ?_, .of_push16 plain rfl, .of_push16 plain rfl, fun m => .of_push16 plain ?_,
    fun sr => .of_push16 plain rfl, .of_push16 plain rfl⟩
  · have pushed : execPushR16 r s = .next (s.push16 (s.regs.get16 r)) :=
      congrArg Host.Outcome.next (s.pushReg_of_ne_sp notSp)
    exact ⟨.of_push16 plain pushed, .of_push16 plain pushed⟩
  · show Host.Outcome.next ((s.afterRm .word (.mem m)).push16 _) = _
    rw [State.afterRm_plain plain]

/-- Settles O17: a pop is the change of SP and then a store to the destination, whose address SP is no part of. -/
theorem popLoadsWord : Obligations.PopLoadsWord := by
  intro s plain top
  have popped : s.drop16 = s.setReg16 .spAh (s.regs.sp + 2) := State.drop16_plain plain
  have plain' : Plain (s.setReg16 .spAh (s.regs.sp + 2)) := plain.of_env rfl
  have atTop : top = s.top16 := s.stackWord_zero
  rw [atTop]
  refine ⟨fun r i form => ?_, fun m => ?_⟩
  · have effect : exec i s = .next ((s.setReg16 .spAh (s.regs.sp + 2)).setReg16 r s.top16) := by
      rw [← popped]
      rcases form with rfl | rfl <;> rfl
    refine ⟨_, effect, Regs.get16_set16 _ r _, fun notSp => Regs.get16_set16_ne _ _ (Ne.symm notSp), rfl,
      FrameRegs.of_setRegs (((SameRegsBut.refl _ s).setReg16 (by simp) _).setReg16 (by simp) _)⟩
  · have effect : exec (.popRm (.mem m)) s
        = .next ((s.setReg16 .spAh (s.regs.sp + 2)).writeRm .word (.mem m) s.top16) := by
      rw [← popped]
      rfl
    obtain ⟨regs, bytes, control⟩ := State.writeRm_frame plain' .word (.mem m) s.top16
    exact ⟨_, effect, State.writeRm_holds plain' .word (.mem m) s.top16, congrArg Regs.sp regs,
      State.writeRm_flags _ _ _ _, .of_set16 regs, bytes, control⟩

/-! ## XCHG -/

/-- A store to another operand leaves a register as it was. -/
theorem State.writeRm_reg_of_ne (s : State) {w : Width} {rm : Rm} (v : BitVec w.bits) {q : Reg} (other : rm ≠ .reg q) :
    (s.writeRm w rm v).reg w q = s.reg w q := by
  cases rm with
  | reg r => exact Regs.get_set_ne s.regs v fun same => other (congrArg Rm.reg same.symm)
  | mem m => rw [State.reg, State.writeRm_mem_regs, State.reg]

/-- What an operand holds is kept by a write of a register that is not the operand. -/
theorem Holds.setReg {s t : State} {w : Width} {dst : Rm} {v : BitVec w.bits} (h : Holds s t w dst v) (plain : Plain t)
    {r : Reg} (other : dst ≠ .reg r) (x : BitVec w.bits) : Holds s (t.setReg w r x) w dst v := by
  cases dst with
  | reg q => exact (Regs.get_set_ne t.regs x (mt (congrArg Rm.reg) other)).trans h
  | mem m =>
    have read : (t.setReg w r x).readSeg (s.memSeg m) (s.memOff m) w = t.readSeg (s.memSeg m) (s.memOff m) w :=
      State.readSeg_congr (t := t.setReg w r x) plain rfl rfl _ _ _
    exact fun ram => read.trans (h ram)

theorem State.exchangeAx_ax (s : State) (r : Reg) : (s.exchangeAx r).regs.ax = s.regs.get16 r := by
  cases r <;> rfl

/-- AX and the register hold each other's values, and no other register is written. -/
theorem Completes.of_exchangeAx {i : Instr} {s : State} {r : Reg} (effect : exec i s = .next (s.exchangeAx r)) :
    Completes i s fun t => t.regs.ax = s.regs.get16 r ∧ t.regs.get16 r = s.regs.ax ∧ t.flags = s.flags
      ∧ FrameRegs [.axAl, r] s t :=
  ⟨_, effect, s.exchangeAx_ax r, Regs.get16_set16 _ r _, rfl,
    .of_setRegs (((SameRegsBut.refl _ s).setReg16 (by simp) _).setReg16 (by simp) _)⟩

/-- Settles O19: XCHG stores the register to E and then what E held to the register. -/
theorem xchgExchanges : Obligations.XchgExchanges := by
  intro s plain
  refine ⟨fun w rm reg => ?_, fun i r form => ?_, _, rfl, rfl⟩
  · have effect : exec (.xchgRmReg w rm reg) s
        = .next ((s.writeRm w rm (s.reg w reg)).setReg w reg (s.readRm w rm)) := by
      show Host.Outcome.next (((s.afterRm w rm).writeRm w rm _).setReg w reg _) = _
      rw [State.afterRm_plain plain]
    obtain ⟨regs, bytes, control⟩ := State.writeRm_frame plain w rm (s.reg w reg)
    have plain' : Plain (s.writeRm w rm (s.reg w reg)) := plain.of_env (State.writeRm_env_plain plain _ _ _).1
    have taken : ((s.writeRm w rm (s.reg w reg)).setReg w reg (s.readRm w rm)).reg w reg = s.readRm w rm :=
      Regs.get_set _ w reg _
    refine ⟨_, effect, ?_, taken, s.writeRm_flags w rm _, fun q notReg notRm => ?_, fun isByte => ?_, bytes, control⟩
    · by_cases same : rm = .reg reg
      · subst same
        exact taken
      · exact (State.writeRm_holds plain w rm (s.reg w reg)).setReg plain' same _
    · exact (Regs.get_set_ne _ _ notReg).trans (s.writeRm_reg_of_ne _ notRm)
    · subst isByte
      exact regs.sameRegsBut_of_byte.setReg_byte reg _
  · rcases form with ⟨rfl, rfl⟩ | rfl | rfl <;> exact .of_exchangeAx rfl

/-! ## LEA, XLAT, LDS and LES -/

/-- A load of a general register and a segment register at once. -/
theorem Completes.of_loadFar {i : Instr} {s : State} {reg : Reg} {sr : SReg} {off sgm : Word}
    (effect : exec i s = .next ((s.setReg16 reg off).setSeg sr sgm)) :
    Completes i s fun t => t.regs.get16 reg = off ∧ t.segs.get sr = sgm
      ∧ (∀ g, g ≠ sr → t.segs.get g = s.segs.get g) ∧ t.ip = s.ip ∧ t.flags = s.flags ∧ SameRegsBut [reg] s t
      ∧ SameBytesOutside [] s t ∧ SameHidden s t :=
  ⟨_, effect, Regs.get16_set16 _ reg _, Segs.get_set _ sr _, fun _ other => Segs.get_set_ne _ _ other, rfl, rfl,
    s.setReg16_sameRegsBut reg off, fun _ _ => rfl, rfl, rfl, rfl, rfl⟩

/-- The effect of LDS and LES: both words come from memory as it was, with the segments as they were. -/
theorem State.loadFar_plain {s : State} (plain : Plain s) (reg : Reg) (m : MemRef) (sr : SReg) :
    ((s.afterFar m).setReg16 reg (s.farOffset m)).setSeg sr (s.farSegment m)
      = (s.setReg16 reg (s.readSeg (s.memSeg m) (s.memOff m) .word)).setSeg sr
          (s.readSeg (s.memSeg m) (s.memOff m + 2) .word) := by
  rw [State.afterFar_plain plain, State.farSegment_plain plain, State.farOffset]

theorem exec_xlat_plain {s : State} (plain : Plain s) : exec .xlat s
    = .next (s.writeRm .byte (.reg .axAl) (s.byteAt (phys (s.segs.get (s.pre.segOvr.getD .ds))
        (BitVec.ofNat 16 (s.regs.bx.toNat + (s.regs.get8 .axAl).toNat))))) := by
  have offset : s.regs.bx + (s.regs.get8 .axAl).setWidth 16
      = BitVec.ofNat 16 (s.regs.bx.toNat + (s.regs.get8 .axAl).toNat) := by
    apply BitVec.eq_of_toNat_eq
    simp [BitVec.toNat_add]
  rw [← offset, ← State.readSeg_byte_plain plain]
  show Host.Outcome.next ((s.afterSeg _ _ .byte).setAcc .byte _) = _
  rw [State.afterSeg_plain plain]
  rfl

/-- Settles O21: LEA and XLAT write one register, LDS and LES a register and a segment register. -/
theorem addressAndPointerLoads : Obligations.AddressAndPointerLoads := by
  intro s reg m plain sg ea
  exact ⟨⟨_, rfl, Regs.get16_set16 _ reg _, rfl, .of_setRegs (s.setReg16_sameRegsBut reg ea)⟩,
    Completes.of_writeRm plain (exec_xlat_plain plain),
    Completes.of_loadFar (sr := .ds) (congrArg _ (State.loadFar_plain plain reg m .ds)),
    Completes.of_loadFar (sr := .es) (congrArg _ (State.loadFar_plain plain reg m .es))⟩

end Sys2Proof.Machine
end

section
/-! Sums and differences (41_arithmetic.md rule R160, 10_state.md rule R30): the value of a result, and what each of its
six flags says. OF is the one flag with an argument of its own (`signs_iff_not_fits`); INC, DEC and NEG are the sums and
differences with an operand of 1 or 0, whose OF and AF name single values. -/

namespace Sys2Proof.Machine

/-! ## SF, ZF and PF -/

/-- PF folds the bits by exclusive or where rule R30 counts them. -/
theorem length_filter_even_iff (p : Nat → Bool) (l : List Nat) :
    (l.filter p).length % 2 = 0 ↔ l.foldr (fun i b => p i ^^ b) false = false := by
  induction l with
  | nil => simp
  | cons i l ih =>
    cases hi : p i
    · simpa [hi] using ih
    · simp only [List.filter_cons_of_pos hi, List.length_cons, List.foldr_cons, hi, Bool.true_xor, Bool.not_eq_false',
        ← Bool.not_eq_false, ← ih]
      omega

theorem evenParity_iff {n : Nat} (r : BitVec n) :
    evenParity (r.setWidth 8) = true ↔ ((List.range 8).filter fun i => r.getLsbD i).length % 2 = 0 := by
  rw [length_filter_even_iff]
  simp [evenParity, List.range_succ]

theorem Flags.szp_sets {n : Nat} (f : Flags) (r : BitVec n) : SetsSzp (f.szp r) r := by
  refine ⟨?_, ?_, evenParity_iff r⟩
  · show r.msb = true ↔ _
    rw [BitVec.msb_eq_toInt, decide_eq_true_iff]
  · show (r == 0#n) = true ↔ _
    rw [beq_iff_eq, BitVec.toNat_eq, BitVec.toNat_zero]

/-! ## The value of a result -/

section
variable {n : Nat} (a b : BitVec n) (c : Bool)

theorem addResult_toNat : (addResult a b c).toNat = (a.toNat + b.toNat + c.toNat) % 2 ^ n := BitVec.toNat_ofNat _ _

theorem subResult_toNat : ((subResult a b c).toNat : Int) = ((a.toNat : Int) - b.toNat - c.toNat) % 2 ^ n := by
  have nonneg : 0 ≤ ((a.toNat : Int) - b.toNat - c.toNat) % 2 ^ n := Int.emod_nonneg _ (by positivity)
  simp [subResult, BitVec.toNat_ofInt, nonneg]

theorem addResult_toInt : (addResult a b c).toInt = (a.toInt + b.toInt + c.toNat).bmod (2 ^ n) := by
  rw [addResult, BitVec.toInt_ofNat', a.toInt_eq_toNat_bmod, b.toInt_eq_toNat_bmod,
    ← Int.bmod_add_bmod (y := (c.toNat : Int)), ← Int.add_bmod, Int.bmod_add_bmod]
  push_cast
  rfl

theorem subResult_toInt : (subResult a b c).toInt = (a.toInt - b.toInt - c.toNat).bmod (2 ^ n) := by
  rw [subResult, BitVec.toInt_ofInt, a.toInt_eq_toNat_bmod, b.toInt_eq_toNat_bmod, ← Int.bmod_sub_bmod,
    ← Int.bmod_sub_bmod (x := _ - _), ← Int.sub_bmod]

theorem decrement_toNat (wide : 1 < n) : (subResult a 1#n false).toNat = (a.toNat + 2 ^ n - 1) % 2 ^ n := by
  have positive : 0 < 2 ^ n := by positivity
  rw [subResult_false, BitVec.toNat_sub, BitVec.toNat_one (by omega)]
  congr 1
  omega

theorem negate_toNat : (subResult 0#n a false).toNat = (2 ^ n - a.toNat) % 2 ^ n := by
  rw [subResult_false, BitVec.toNat_sub, BitVec.toNat_zero, Nat.add_zero]

end

/-! ## The signed range -/

section
variable {n : Nat} (pos : 0 < n)
include pos

theorem two_pow_eq_double : 2 ^ n = 2 * 2 ^ (n - 1) := by rw [← pow_succ', Nat.sub_add_cancel pos]

theorem bmod_eq_self_iff (x : Int) : x.bmod (2 ^ n) = x ↔ FitsSigned n x := by
  rw [Int.bmod_eq_iff (by positivity), two_pow_eq_double pos, FitsSigned,
    show (2 : Int) ^ (n - 1) = (2 ^ (n - 1) : Nat) by norm_cast, sub_self]
  generalize 2 ^ (n - 1) = m
  simp only [dvd_zero, and_true]
  omega

/-- The sum of two values of one sign has the other sign exactly when it does not fit. A difference is such a sum too, of
`a` and `-b - 1`. -/
theorem signs_iff_not_fits {a b c x : Int} (carry : 0 ≤ c ∧ c ≤ 1) (ha : -2 ^ (n - 1) ≤ a ∧ a < 2 ^ (n - 1))
    (hb : -2 ^ (n - 1) ≤ b ∧ b < 2 ^ (n - 1)) (sum : x = a + b + c) :
    ((a < 0 ↔ b < 0) ∧ ¬ (x.bmod (2 ^ n) < 0 ↔ a < 0)) ↔ ¬ FitsSigned n x := by
  unfold FitsSigned
  rw [two_pow_eq_double pos, Int.bmod_neg_iff] <;> push_cast
  all_goals
    generalize (2 : Int) ^ (n - 1) = m at *
    omega

/-- 7FFFh is the most positive word, 7Fh the most positive byte. -/
theorem toInt_eq_max_iff (a : BitVec n) : a.toInt = 2 ^ (n - 1) - 1 ↔ a.toNat = 2 ^ (n - 1) - 1 := by
  have positive : 0 < 2 ^ (n - 1) := by positivity
  have bound := a.isLt
  have signed := a.toInt_eq_toNat_cond
  rw [two_pow_eq_double pos] at signed bound
  rw [show (2 : Int) ^ (n - 1) = (2 ^ (n - 1) : Nat) by norm_cast]
  generalize 2 ^ (n - 1) = m at *
  split at signed <;> omega

/-- 8000h is the most negative word, 80h the most negative byte. -/
theorem toInt_eq_min_iff (a : BitVec n) : a.toInt = -2 ^ (n - 1) ↔ a.toNat = 2 ^ (n - 1) := by
  have bound := a.isLt
  have signed := a.toInt_eq_toNat_cond
  rw [two_pow_eq_double pos] at signed bound
  rw [show (2 : Int) ^ (n - 1) = (2 ^ (n - 1) : Nat) by norm_cast]
  generalize 2 ^ (n - 1) = m at *
  split at signed <;> omega

end

/-! ## The six flags -/

section
variable {n : Nat} (f : Flags) (a b : BitVec n) (c : Bool)

theorem Flags.add_oF_iff (pos : 0 < n) :
    (f.add a b c).oF = true ↔ ¬ FitsSigned n (a.toInt + b.toInt + c.toNat) := by
  rw [← signs_iff_not_fits pos ⟨by omega, by cases c <;> simp⟩ ⟨a.le_toInt, a.toInt_lt⟩ ⟨b.le_toInt, b.toInt_lt⟩ rfl,
    ← addResult_toInt]
  show ((a.msb == b.msb) && (addResult a b c).msb != a.msb) = true ↔ _
  simp only [BitVec.msb_eq_toInt, Bool.and_eq_true, beq_iff_eq, bne_iff_ne, ne_eq, decide_eq_decide]

theorem Flags.sub_oF_iff (pos : 0 < n) :
    (f.sub a b c).oF = true ↔ ¬ FitsSigned n (a.toInt - b.toInt - c.toNat) := by
  have low := b.le_toInt
  have high := b.toInt_lt
  rw [← signs_iff_not_fits (b := -b.toInt - 1) (c := 1 - c.toNat) pos (by cases c <;> simp) ⟨a.le_toInt, a.toInt_lt⟩
    (by omega) (by omega), ← subResult_toInt]
  show ((a.msb != b.msb) && (subResult a b c).msb != a.msb) = true ↔ _
  simp only [BitVec.msb_eq_toInt, Bool.and_eq_true, bne_iff_ne, ne_eq, decide_eq_decide]
  omega

theorem Flags.add_addFlags (pos : 0 < n) : AddFlags (f.add a b c) a b c.toNat (addResult a b c) :=
  ⟨f.szp_sets _, decide_eq_true_iff, decide_eq_true_iff, f.add_oF_iff a b c pos⟩

theorem Flags.sub_subFlags (pos : 0 < n) : SubFlags (f.sub a b c) a b c.toNat (subResult a b c) :=
  ⟨f.szp_sets _, decide_eq_true_iff, decide_eq_true_iff, f.sub_oF_iff a b c pos⟩

end

/-! ## The flags of INC, DEC and NEG -/

section
variable {n : Nat} (f : Flags) (a : BitVec n)

theorem Flags.increment_oF_iff (wide : 1 < n) : (f.add a 1#n false).oF = true ↔ a.toNat = 2 ^ (n - 1) - 1 := by
  have low := a.le_toInt
  have high := a.toInt_lt
  rw [f.add_oF_iff _ _ _ (by omega), ← toInt_eq_max_iff (by omega), BitVec.toInt_one wide, FitsSigned, Bool.toNat_false]
  omega

theorem Flags.increment_af_iff (wide : 1 < n) : (f.add a 1#n false).af = true ↔ a.toNat % 16 = 15 := by
  refine decide_eq_true_iff.trans ?_
  rw [BitVec.toNat_one (by omega), Bool.toNat_false]
  omega

theorem Flags.decrement_oF_iff (wide : 1 < n) : (f.sub a 1#n false).oF = true ↔ a.toNat = 2 ^ (n - 1) := by
  have low := a.le_toInt
  have high := a.toInt_lt
  rw [f.sub_oF_iff _ _ _ (by omega), ← toInt_eq_min_iff (by omega), BitVec.toInt_one wide, FitsSigned, Bool.toNat_false]
  omega

theorem Flags.decrement_af_iff (wide : 1 < n) : (f.sub a 1#n false).af = true ↔ a.toNat % 16 = 0 := by
  refine decide_eq_true_iff.trans ?_
  rw [BitVec.toNat_one (by omega), Bool.toNat_false]
  omega

theorem Flags.negate_oF_iff (pos : 0 < n) : (f.sub 0#n a false).oF = true ↔ a.toNat = 2 ^ (n - 1) := by
  have low := a.le_toInt
  have high := a.toInt_lt
  rw [f.sub_oF_iff _ _ _ pos, ← toInt_eq_min_iff pos, BitVec.toInt_zero, FitsSigned, Bool.toNat_false]
  omega

theorem Flags.negate_af_iff : (f.sub 0#n a false).af = true ↔ a.toNat % 16 ≠ 0 := by
  refine decide_eq_true_iff.trans ?_
  rw [BitVec.toNat_zero, Bool.toNat_false]
  omega

theorem Flags.negate_cf_iff : (f.sub 0#n a false).cf = true ↔ a.toNat ≠ 0 := by
  rw [Flags.sub_cf, decide_eq_true_iff, BitVec.toNat_zero]
  omega

end

end Sys2Proof.Machine
end

section
/-! Frames and flags (10_state.md rule R29, 92_eei_decisions.md D28): a frame and an operand do not see the flags, and
leaving flags undefined changes them and the draws only. -/

namespace Sys2Proof

theorem Width.one_lt_bits (w : Width) : 1 < w.bits := by cases w <;> decide
theorem Width.bits_pos (w : Width) : 0 < w.bits := Nat.lt_of_succ_lt w.one_lt_bits

namespace Machine

/-! ## Flags left undefined -/

theorem State.undefine_eq (s : State) (ns : List StatusFlag) :
    s.undefine ns = (s.setFlags (s.undefine ns).flags).setDraws (s.draws + ns.length) := by
  induction ns generalizing s with
  | nil => rfl
  | cons n ns ih =>
    have rest := ih (s.undefineFlag n)
    rw [show (s.undefineFlag n).draws + ns.length = s.draws + (n :: ns).length by
      rw [List.length_cons, ← Nat.add_assoc, Nat.add_right_comm]; rfl] at rest
    exact rest

theorem Flags.status_setStatus_ne (f : Flags) {n m : StatusFlag} (b : Bool) (other : m ≠ n) :
    (f.setStatus n b).status m = f.status m := by
  cases n <;> cases m <;> first | rfl | exact absurd rfl other

/-- A status flag that is not named keeps its value. -/
theorem State.undefine_status (s : State) {ns : List StatusFlag} {m : StatusFlag} (unnamed : m ∉ ns) :
    (s.undefine ns).flags.status m = s.flags.status m := by
  induction ns generalizing s with
  | nil => rfl
  | cons n ns ih =>
    rw [List.mem_cons, not_or] at unnamed
    obtain ⟨other, rest⟩ := unnamed
    exact (ih (s.undefineFlag n) rest).trans (s.flags.status_setStatus_ne _ other)

/-! ## Which flags an instruction keeps -/

section
variable {s t : State}

/-- An instruction that may change every status flag keeps the control flags. -/
theorem SameFlagsBut.of_control (control : t.flags.control = s.flags.control) : SameFlagsBut allStatus s t := by
  obtain ⟨tf, iF, df⟩ := Flags.control_eq_iff.1 control
  exact ⟨tf, iF, df, fun n unnamed => absurd (by cases n <;> decide) unnamed⟩

/-- INC and DEC keep CF beside the control flags (41_arithmetic.md rules R167 and R177). -/
theorem SameFlagsBut.of_carry (control : t.flags.control = s.flags.control) (carry : t.flags.cf = s.flags.cf) :
    SameFlagsBut [.pf, .af, .zf, .sf, .oF] s t := by
  obtain ⟨tf, iF, df⟩ := Flags.control_eq_iff.1 control
  refine ⟨tf, iF, df, fun n unnamed => ?_⟩
  cases n with
  | cf => exact carry
  | _ => simp at unnamed

end

section
variable {n : Nat} {f : Flags} {r : BitVec n}

theorem SetsSzp.setAdjust (h : SetsSzp f r) (a c : Bool) : SetsSzp (f.setAdjust a c) r := h

theorem SetsSzp.undefine (h : SetsSzp f r) (s : State) {ns : List StatusFlag} (sf : .sf ∉ ns) (zf : .zf ∉ ns)
    (pf : .pf ∉ ns) : SetsSzp ((s.setFlags f).undefine ns).flags r := by
  have sf' : ((s.setFlags f).undefine ns).flags.sf = f.sf := State.undefine_status _ sf
  have zf' : ((s.setFlags f).undefine ns).flags.zf = f.zf := State.undefine_status _ zf
  have pf' : ((s.setFlags f).undefine ns).flags.pf = f.pf := State.undefine_status _ pf
  unfold SetsSzp
  rwa [sf', zf', pf']

end

/-! ## Frames and operands -/

section
variable {s t : State} {w : Width} {dst : Rm} {rs : List Reg}

theorem FrameOf.setFlags (h : FrameOf w dst s t) (f : Flags) : FrameOf w dst s (t.setFlags f) := h

theorem FrameRegs.setFlags (h : FrameRegs rs s t) (f : Flags) : FrameRegs rs s (t.setFlags f) := h

theorem FrameOf.undefine (h : FrameOf w dst s t) (ns : List StatusFlag) : FrameOf w dst s (t.undefine ns) := by
  rw [t.undefine_eq]
  exact h

theorem FrameRegs.undefine (h : FrameRegs rs s t) (ns : List StatusFlag) : FrameRegs rs s (t.undefine ns) := by
  rw [t.undefine_eq]
  exact h

theorem Holds.setFlags {v : BitVec w.bits} (h : Holds s t w dst v) (plain : Plain t) (f : Flags) :
    Holds s (t.setFlags f) w dst v := by
  cases dst with
  | reg r => exact h
  | mem m => exact fun ram => (State.readSeg_congr (t := t.setFlags f) plain rfl rfl _ _ _).trans (h ram)

/-- A write of a register changes nothing else; this holds on every machine, plain or not. -/
theorem State.setReg_frame (s : State) (w : Width) (r : Reg) (v : BitVec w.bits) :
    FrameOf w (.reg r) s (s.setReg w r v) :=
  ⟨s.setReg_sameRegsOutside w r v, fun _ _ => rfl, rfl, rfl, rfl, rfl, rfl, rfl⟩

end

section
variable {s : State} (plain : Plain s) (w : Width) (dst : Rm) (r : BitVec w.bits) (f : Flags)
include plain

theorem State.writeRm_setFlags_holds : Holds s ((s.writeRm w dst r).setFlags f) w dst r :=
  (State.writeRm_holds plain w dst r).setFlags (plain.of_env (State.writeRm_env_plain plain w dst r).1) f

theorem State.writeRm_setFlags_frame : FrameOf w dst s ((s.writeRm w dst r).setFlags f) :=
  (State.writeRm_frame plain w dst r).setFlags f

end

end Machine
end Sys2Proof
end

section
/-! Addition and subtraction (41_arithmetic.md rules R160 to R183): each instruction is one shared operation, a result
stored to its destination with the flags of the result. -/

namespace Sys2Proof.Machine

/-! ## The shared operations -/

section
variable {s : State} (plain : Plain s) {i : Instr} {w : Width} {rm dst : Rm} {b : BitVec w.bits} {c : Bool}
include plain

theorem AddsInto.of_addTo (effect : exec i s = .next (s.addTo w rm dst b c)) : AddsInto s c.toNat i w dst b := by
  rw [State.addTo, State.afterRm_plain plain] at effect
  exact ⟨_, effect, _, addResult_toNat _ b c, State.writeRm_setFlags_holds plain w dst _ _,
    Flags.add_addFlags _ _ _ _ w.bits_pos, .of_control (by simp), State.writeRm_setFlags_frame plain w dst _ _⟩

theorem SubtractsFrom.of_subFrom (effect : exec i s = .next (s.subFrom w rm dst b c)) :
    SubtractsFrom s c.toNat i w dst b := by
  rw [State.subFrom, State.afterRm_plain plain] at effect
  exact ⟨_, effect, _, subResult_toNat _ b c, State.writeRm_setFlags_holds plain w dst _ _,
    Flags.sub_subFlags _ _ _ _ w.bits_pos, .of_control (by simp), State.writeRm_setFlags_frame plain w dst _ _⟩

theorem Compares.of_compare (effect : exec i s = .next ((s.afterRm w rm).compare (s.readRm w dst) b)) :
    Compares s i w dst b := by
  rw [State.afterRm_plain plain] at effect
  exact ⟨_, effect, _, by simpa using subResult_toNat (s.readRm w dst) b false,
    Flags.sub_subFlags _ _ _ false w.bits_pos, .of_control (by simp),
    FrameRegs.setFlags (FrameRegs.of_setRegs (g := s.regs) (.refl _ s)) _⟩

end

/-- The eight forms are one operation on other operands: `rm` is read over the bus, `dst` and the last operand are
combined. -/
theorem ArithForms.of_exec {s : State} {rmReg : Width → Dir → Rm → Reg → Instr} {rmImm : ArithImm → Rm → Instr}
    {accImm : Imm → Instr} {P : Instr → (w : Width) → Rm → BitVec w.bits → Prop}
    (op : (w : Width) → Rm → Rm → BitVec w.bits → State)
    (of_op : ∀ {i w rm dst b}, exec i s = .next (op w rm dst b) → P i w dst b)
    (regForm : ∀ w d rm reg,
      exec (rmReg w d rm reg) s = .next (op w rm (destOperand d rm reg) (s.sourceOperand w d rm reg)))
    (immForm : ∀ imm rm, exec (rmImm imm rm) s = .next (op (arithWidth imm) rm rm (arithValue imm)))
    (accForm : ∀ imm, exec (accImm imm) s = .next (op (immWidth imm) (.reg .axAl) (.reg .axAl) (immValue imm))) :
    ArithForms s rmReg rmImm accImm P :=
  ⟨fun w rm reg => of_op (regForm w .fromReg rm reg), fun w rm reg => of_op (regForm w .toReg rm reg),
    fun v rm => of_op (immForm (.op80 v) rm), fun v rm => of_op (immForm (.op81 v) rm),
    fun v rm => of_op (immForm (.op82 v) rm), fun v rm => of_op (immForm (.op83 v) rm),
    fun v => of_op (accForm (.byte v)), fun v => of_op (accForm (.word v))⟩

/-! ## The statements -/

/-- Settles O22: every form of ADD is `addTo` without a carry in, every form of ADC `addTo` with CF. -/
theorem addAndAdcResult : Obligations.AddAndAdcResult := fun s plain =>
  ⟨.of_exec (fun w rm dst b => s.addTo w rm dst b false) (AddsInto.of_addTo plain) (fun _ _ _ _ => rfl)
      (fun _ _ => rfl) fun _ => rfl,
    .of_exec (fun w rm dst b => s.addTo w rm dst b s.flags.cf) (AddsInto.of_addTo plain) (fun _ _ _ _ => rfl)
      (fun _ _ => rfl) fun _ => rfl⟩

/-- Settles O23: every form of SUB and SBB is `subFrom`, without a borrow in and with CF, and every form of CMP a
comparison of the same operands. -/
theorem subSbbAndCmpResult : Obligations.SubSbbAndCmpResult := fun s plain =>
  ⟨.of_exec (fun w rm dst b => s.subFrom w rm dst b false) (SubtractsFrom.of_subFrom plain) (fun _ _ _ _ => rfl)
      (fun _ _ => rfl) fun _ => rfl,
    .of_exec (fun w rm dst b => s.subFrom w rm dst b s.flags.cf) (SubtractsFrom.of_subFrom plain) (fun _ _ _ _ => rfl)
      (fun _ _ => rfl) fun _ => rfl,
    .of_exec (fun w rm dst b => (s.afterRm w rm).compare (s.readRm w dst) b) (Compares.of_compare plain)
      (fun _ _ _ _ => rfl) (fun _ _ => rfl) fun _ => rfl⟩

theorem exec_neg_plain {s : State} (plain : Plain s) (w : Width) (rm : Rm) : exec (.neg w rm) s
    = .next ((s.writeRm w rm (subResult 0#w.bits (s.readRm w rm) false)).setFlags
        (s.flags.sub 0#w.bits (s.readRm w rm) false)) := by
  show execNeg w rm s = _
  rw [execNeg, State.afterRm_plain plain]

/-- Settles O24: INC and DEC are the sum and the difference with 1, NEG the difference from 0. -/
theorem incDecAndNegResult : Obligations.IncDecAndNegResult := by
  intro s plain incs decs
  have inc {i w rm} (effect : exec i s = .next (s.increment w rm)) : incs i w rm := by
    rw [State.increment, State.afterRm_plain plain] at effect
    exact ⟨_, effect, _, by simp [addResult_toNat], State.writeRm_setFlags_holds plain w rm _ _, s.flags.szp_sets _,
      s.flags.increment_oF_iff _ w.one_lt_bits, s.flags.increment_af_iff _ w.one_lt_bits, .of_carry (by simp) rfl,
      State.writeRm_setFlags_frame plain w rm _ _⟩
  have dec {i w rm} (effect : exec i s = .next (s.decrement w rm)) : decs i w rm := by
    rw [State.decrement, State.afterRm_plain plain] at effect
    exact ⟨_, effect, _, decrement_toNat _ w.one_lt_bits, State.writeRm_setFlags_holds plain w rm _ _,
      s.flags.szp_sets _, s.flags.decrement_oF_iff _ w.one_lt_bits, s.flags.decrement_af_iff _ w.one_lt_bits,
      .of_carry (by simp) rfl, State.writeRm_setFlags_frame plain w rm _ _⟩
  refine ⟨fun w rm => ⟨inc rfl, dec rfl⟩, fun reg => ⟨inc rfl, dec rfl⟩, fun w rm => ?_⟩
  exact ⟨_, exec_neg_plain plain w rm, _, negate_toNat _, State.writeRm_setFlags_holds plain w rm _ _,
    s.flags.szp_sets _, s.flags.negate_cf_iff _, s.flags.negate_oF_iff _ w.bits_pos, s.flags.negate_af_iff _,
    .of_control (by simp), State.writeRm_setFlags_frame plain w rm _ _⟩

end Sys2Proof.Machine
end

section
/-! Multiplication (41_arithmetic.md rules R186 and R187): the product fits in twice the width of its operands, its
halves are AL and AH or AX and DX, and CF = OF says whether the low half alone has its value. -/

namespace Sys2Proof.Machine

/-! ## The halves of a double word -/

theorem append_toNat {m n : Nat} (x : BitVec m) (y : BitVec n) : (x ++ y).toNat = x.toNat * 2 ^ n + y.toNat := by
  rw [BitVec.toNat_append, ← Nat.shiftLeft_add_eq_or_of_lt y.isLt, Nat.shiftLeft_eq]

theorem append_toInt {m n : Nat} (pos : 0 < m) (x : BitVec m) (y : BitVec n) :
    (x ++ y).toInt = x.toInt * 2 ^ n + y.toNat := by
  rw [BitVec.toInt_append, if_neg (by simpa using pos.ne'), mul_comm]

theorem lowHalf_toInt {n k : Nat} (narrow : k ≤ n) (p : BitVec n) :
    (p.extractLsb' 0 k).toInt = p.toInt.bmod (2 ^ k) := by
  rw [← BitVec.setWidth_eq_extractLsb' narrow, BitVec.toInt_setWidth, p.toInt_eq_toNat_bmod,
    Int.bmod_bmod_of_dvd (pow_dvd_pow 2 narrow)]

theorem highHalf_ne_zero_iff {n k : Nat} {p : BitVec n} (fits : p.toNat < 2 ^ k * 2 ^ k) :
    (p.extractLsb' k k != 0#k) = true ↔ 2 ^ k ≤ p.toNat := by
  rw [bne_iff_ne, ne_eq, BitVec.toNat_eq, BitVec.extractLsb'_toNat, Nat.shiftRight_eq_div_pow,
    Nat.mod_eq_of_lt (Nat.div_lt_of_lt_mul fits), BitVec.toNat_zero, Nat.div_eq_zero_iff_lt (by positivity), not_lt]

theorem ne_signExtend_iff {n k : Nat} (pos : 0 < k) (narrow : k ≤ n) {p : BitVec n} {low : BitVec k}
    (half : low.toInt = p.toInt.bmod (2 ^ k)) : (p != low.signExtend n) = true ↔ ¬ FitsSigned k p.toInt := by
  rw [bne_iff_ne, ne_eq, ← BitVec.toInt_inj, BitVec.toInt_signExtend_of_le narrow, half, eq_comm, bmod_eq_self_iff pos]

/-! ## The products -/

section
variable (s : State) (w : Width) (rm : Rm)

theorem State.mulProduct_lt : (s.acc w).toNat * (s.readRm w rm).toNat < 2 ^ w.bits * 2 ^ w.bits :=
  Nat.mul_lt_mul'' (s.acc w).isLt (s.readRm w rm).isLt

theorem State.mulProduct_toNat : (s.mulProduct w rm).toNat = (s.acc w).toNat * (s.readRm w rm).toNat := by
  have room : 2 ^ w.bits * 2 ^ w.bits ≤ 2 ^ 32 := by cases w <;> decide
  rw [State.mulProduct, BitVec.toNat_ofNat, Nat.mod_eq_of_lt (lt_of_lt_of_le (s.mulProduct_lt w rm) room)]

theorem State.imulProduct_fits : FitsSigned (w.bits + w.bits) ((s.acc w).toInt * (s.readRm w rm).toInt) := by
  have low := BitVec.le_toInt_mul_toInt (x := s.acc w) (y := s.readRm w rm)
  have high := BitVec.toInt_mul_toInt_le (x := s.acc w) (y := s.readRm w rm)
  have pos := w.bits_pos
  have room : (2 : Int) ^ (w.bits * 2 - 2) < 2 ^ (w.bits + w.bits - 1) := pow_lt_pow_right₀ (by decide) (by omega)
  exact ⟨by omega, by omega⟩

theorem State.imulProduct_toInt : (s.imulProduct w rm).toInt = (s.acc w).toInt * (s.readRm w rm).toInt := by
  obtain ⟨low, high⟩ := s.imulProduct_fits w rm
  have room : (2 : Int) ^ (w.bits + w.bits - 1) ≤ 2 ^ (32 - 1) := by cases w <;> decide
  exact BitVec.toInt_ofInt_eq_self (by decide) (by omega) (by omega)

end

section
variable {w : Width} {p : BitVec 32}

theorem productCarry_iff (fits : p.toNat < 2 ^ w.bits * 2 ^ w.bits) :
    productCarry w p = true ↔ 2 ^ w.bits ≤ p.toNat := by
  cases w with
  | byte => exact highHalf_ne_zero_iff fits
  | word => exact highHalf_ne_zero_iff fits

theorem productOverflow_iff (fits : FitsSigned (w.bits + w.bits) p.toInt) :
    productOverflow w p = true ↔ ¬ FitsSigned w.bits p.toInt := by
  cases w with
  | byte =>
    have whole : (p.extractLsb' 0 16).toInt = p.toInt :=
      (lowHalf_toInt (by decide) p).trans ((bmod_eq_self_iff (by decide) _).2 fits)
    have half : (p.extractLsb' 0 8).toInt = (p.extractLsb' 0 16).toInt.bmod (2 ^ 8) :=
      whole ▸ lowHalf_toInt (by decide) p
    exact whole ▸ ne_signExtend_iff (by decide) (by decide) half
  | word => exact ne_signExtend_iff (by decide) (by decide) (lowHalf_toInt (by decide) p)

end

/-! ## The registers of a product -/

/-- AX, or DX and AX. -/
def productRegs (w : Width) : List Reg :=
  match w with
  | .byte => [.axAl]
  | .word => [.axAl, .dxDl]

section
variable (s : State)

theorem State.setProduct_frame (w : Width) (p : BitVec 32) : FrameRegs (productRegs w) s (s.setProduct w p) := by
  cases w with
  | byte => exact .of_setRegs (s.setReg16_sameRegsBut _ _)
  | word =>
    exact .of_setRegs (((SameRegsBut.refl _ s).setReg16 (by decide) _).setReg16 (by decide) _)

theorem State.setProduct_byte_toNat {p : BitVec 32} (fits : p.toNat < 2 ^ 16) :
    (s.setProduct .byte p).regs.ax.toNat = p.toNat :=
  (BitVec.extractLsb'_toNat 0 16 p).trans (Nat.mod_eq_of_lt fits)

theorem State.setProduct_byte_toInt {p : BitVec 32} (fits : FitsSigned 16 p.toInt) :
    (s.setProduct .byte p).regs.ax.toInt = p.toInt :=
  (lowHalf_toInt (by decide) p).trans ((bmod_eq_self_iff (by decide) _).2 fits)

theorem State.setProduct_word (p : BitVec 32) :
    (s.setProduct .word p).regs.dx ++ (s.setProduct .word p).regs.ax = p :=
  BitVec.extractLsb'_append_extractLsb' (w := 16) (len := 16)

end

/-! ## The effect of MUL and IMUL -/

/-- A product stored, with CF = OF, and the other status flags left undefined. -/
def State.multiplied (s : State) (w : Width) (p : BitVec 32) (c : Bool) : State :=
  ((s.setProduct w p).setFlags (s.flags.setCarryOverflow c)).undefine [.sf, .zf, .af, .pf]

theorem Completes.of_multiplied {i : Instr} {s : State} {w : Width} {p : BitVec 32} {c : Bool}
    (effect : exec i s = .next (s.multiplied w p c)) :
    Completes i s fun t => t.regs = (s.setProduct w p).regs ∧ t.flags.cf = c ∧ t.flags.oF = t.flags.cf
      ∧ SameFlagsBut allStatus s t ∧ FrameRegs (productRegs w) s t := by
  have cf : (s.multiplied w p c).flags.cf = c := State.undefine_status _ (m := .cf) (by decide)
  have oF : (s.multiplied w p c).flags.oF = c := State.undefine_status _ (m := .oF) (by decide)
  exact ⟨_, effect, State.undefine_regs _ _, cf, oF.trans cf.symm, .of_control (by simp [State.multiplied]),
    ((s.setProduct_frame w p).setFlags _).undefine _⟩

section
variable {s : State} (plain : Plain s) (w : Width) (rm : Rm)
include plain

theorem exec_mul_plain : exec (.mul w rm) s
    = .next (s.multiplied w (s.mulProduct w rm) (productCarry w (s.mulProduct w rm))) := by
  show execMul w rm s = _
  rw [execMul, State.afterRm_plain plain]
  rfl

theorem exec_imul_plain : exec (.imul w rm) s
    = .next (s.multiplied w (s.imulProduct w rm) (productOverflow w (s.imulProduct w rm))) := by
  show execImul w rm s = _
  rw [execImul, State.afterRm_plain plain]
  rfl

theorem Completes.mul : Completes (.mul w rm) s fun t => t.regs = (s.setProduct w (s.mulProduct w rm)).regs
    ∧ (t.flags.cf = true ↔ 2 ^ w.bits ≤ (s.acc w).toNat * (s.readRm w rm).toNat) ∧ t.flags.oF = t.flags.cf
    ∧ SameFlagsBut allStatus s t ∧ FrameRegs (productRegs w) s t := by
  obtain ⟨t, effect, regs, cf, rest⟩ := Completes.of_multiplied (exec_mul_plain plain w rm)
  have carry := productCarry_iff (s.mulProduct_toNat w rm ▸ s.mulProduct_lt w rm)
  rw [s.mulProduct_toNat] at carry
  exact ⟨t, effect, regs, cf ▸ carry, rest⟩

theorem Completes.imul : Completes (.imul w rm) s fun t => t.regs = (s.setProduct w (s.imulProduct w rm)).regs
    ∧ (t.flags.cf = true ↔ ¬ FitsSigned w.bits ((s.acc w).toInt * (s.readRm w rm).toInt)) ∧ t.flags.oF = t.flags.cf
    ∧ SameFlagsBut allStatus s t ∧ FrameRegs (productRegs w) s t := by
  obtain ⟨t, effect, regs, cf, rest⟩ := Completes.of_multiplied (exec_imul_plain plain w rm)
  have overflow := productOverflow_iff (s.imulProduct_toInt w rm ▸ s.imulProduct_fits w rm)
  rw [s.imulProduct_toInt] at overflow
  exact ⟨t, effect, regs, cf ▸ overflow, rest⟩

end

/-- Settles O25: the registers hold the product as the model computes it in 32 bits, and no product exceeds them. -/
theorem multiplyResult : Obligations.MultiplyResult := by
  intro s rm plain al ax
  refine ⟨?_, ?_, ?_, ?_⟩
  · obtain ⟨t, effect, regs, rest⟩ := Completes.mul plain .byte rm
    have fits := s.mulProduct_lt .byte rm
    rw [← s.mulProduct_toNat] at fits
    exact ⟨t, effect, regs ▸ (s.setProduct_byte_toNat fits).trans (s.mulProduct_toNat .byte rm), rest⟩
  · obtain ⟨t, effect, regs, rest⟩ := Completes.mul plain .word rm
    refine ⟨t, effect, ?_, rest⟩
    rw [regs, ← append_toNat, s.setProduct_word]
    exact s.mulProduct_toNat .word rm
  · obtain ⟨t, effect, regs, rest⟩ := Completes.imul plain .byte rm
    have fits := s.imulProduct_fits .byte rm
    rw [← s.imulProduct_toInt] at fits
    exact ⟨t, effect, regs ▸ (s.setProduct_byte_toInt fits).trans (s.imulProduct_toInt .byte rm), rest⟩
  · obtain ⟨t, effect, regs, rest⟩ := Completes.imul plain .word rm
    refine ⟨t, effect, ?_, rest⟩
    rw [regs, ← append_toInt (by decide), s.setProduct_word]
    exact s.imulProduct_toInt .word rm

end Sys2Proof.Machine
end

section
/-! The divide error (41_arithmetic.md rules R191, R192 and R199, 60_exceptions.md rule R352; 92_eei_decisions.md D9, D10
and D28): when DIV and IDIV raise it, and what its entry sees and keeps. -/

namespace Sys2Proof.Machine

/-! ## The dividend and the quotient -/

theorem State.dividend_word_toNat (s : State) :
    (s.dividend .word).toNat = s.regs.dx.toNat * 2 ^ 16 + s.regs.ax.toNat := append_toNat _ _

theorem State.dividend_word_toInt (s : State) :
    (s.dividend .word).toInt = s.regs.dx.toInt * 2 ^ 16 + s.regs.ax.toNat := append_toInt (by decide) _ _

theorem eq_zero_or_le_div {q d n : Nat} (large : q * d ≤ n) : d = 0 ∨ q ≤ n / d := by
  rcases Nat.eq_zero_or_pos d with zero | pos
  · exact .inl zero
  · exact .inr ((Nat.le_div_iff_mul_le pos).2 large)

theorem signedQuotientFits_eq_false_iff (w : Width) (q : Int) : signedQuotientFits w q = false
    ↔ 2 ^ (w.bits - 1) ≤ q ∨ q < -2 ^ (w.bits - 1) ∨ q = -2 ^ (w.bits - 1) ∧ Config.idivAcceptsMin = false := by
  unfold signedQuotientFits
  cases Config.idivAcceptsMin <;> simp <;> omega

/-! ## The error -/

/-- DIV or IDIV meets the condition under which the model raises the error. -/
def DivideFails (s : State) (w : Width) (rm : Rm) (i : Instr) : Prop :=
  (i = .div w rm ∧ ((s.readRm w rm).toNat = 0 ∨ 2 ^ w.bits ≤ s.divQuotient w rm))
    ∨ (i = .idiv w rm ∧ ((s.readRm w rm).toInt = 0 ∨ signedQuotientFits w (s.idivQuotient w rm) = false))

theorem DivideFails.exec_eq {s : State} {w : Width} {rm : Rm} {i : Instr} (h : DivideFails s w rm i) (plain : Plain s) :
    exec i s = .next s.divideError := by
  rcases h with ⟨rfl, error⟩ | ⟨rfl, error⟩
  · show execDiv w rm s = _
    rw [execDiv, if_pos error, State.afterRm_plain plain]
  · show execIdiv w rm s = _
    rw [execIdiv, if_pos error, State.afterRm_plain plain]

/-- An entry does not see how many free values have been drawn before it. -/
theorem Entered.of_setDraws {s t : State} {n : Nat} {type : Byte} {savedIp : Word}
    (h : Entered type savedIp (s.setDraws n) t) : Entered type savedIp s t := h

/-- The entry starts from the state with its status flags left undefined, so that the image it pushes and the flags
after it have the same ones. -/
theorem State.divideError_entered {s : State} (plain : Plain s) : ∃ f : Flags, SameFlagsBut allStatus s (s.setFlags f)
    ∧ Entered 0 s.ip (s.setFlags f) s.divideError ∧ s.divideError.regs.ax = s.regs.ax
    ∧ s.divideError.regs.dx = s.regs.dx ∧ s.divideError.env = s.env := by
  have plain' : Plain (s.undefine allStatus) := plain.of_env (by simp)
  have entered : Entered 0 s.ip (s.undefine allStatus) s.divideError := State.interruptEntry_entered plain' 0 s.ip
  have env : s.divideError.env = (s.undefine allStatus).env := (State.interruptEntry_env_plain plain' 0 s.ip).1
  refine ⟨(s.undefine allStatus).flags, .of_control (by simp), ?_, ?_, ?_, env.trans (by simp)⟩
  · rw [s.undefine_eq allStatus] at entered
    exact entered.of_setDraws
  · simp [State.divideError, Regs.set16]
  · simp [State.divideError, Regs.set16]

/-- Settles O27: each of the cases meets the model's condition, by the value of its dividend and of its quotient. -/
theorem divideErrorEnters : Obligations.DivideErrorEnters := by
  intro s rm i plain q8 q16 error
  suffices fails : ∃ w, DivideFails s w rm i by
    obtain ⟨w, fails⟩ := fails
    exact ⟨_, fails.exec_eq plain, State.divideError_entered plain⟩
  rcases error with ⟨w, form, zero⟩ | ⟨rfl, large⟩ | ⟨rfl, large⟩ | ⟨rfl, unfit⟩ | ⟨rfl, unfit⟩
  · refine ⟨w, form.imp (fun isDiv => ⟨isDiv, .inl ?_⟩) fun isIdiv => ⟨isIdiv, .inl ?_⟩⟩
    · rw [zero, BitVec.toNat_zero]
    · rw [zero, BitVec.toInt_zero]
  · exact ⟨.byte, .inl ⟨rfl, eq_zero_or_le_div large⟩⟩
  · rw [← s.dividend_word_toNat] at large
    exact ⟨.word, .inl ⟨rfl, eq_zero_or_le_div large⟩⟩
  · exact ⟨.byte, .inr ⟨rfl, .inr ((signedQuotientFits_eq_false_iff _ _).2 unfit)⟩⟩
  · subst q16
    rw [← s.dividend_word_toInt] at unfit
    exact ⟨.word, .inr ⟨rfl, .inr ((signedQuotientFits_eq_false_iff _ _).2 unfit)⟩⟩

end Sys2Proof.Machine
end

section
/-! Decimal adjustments and sign extensions (41_arithmetic.md rules R169, R170, R184, R185, R190, R193, R195 and R196;
92_eei_decisions.md D21 to D23). AAA and AAS, DAA and DAS, AAM and AAD are each one adjustment with other constants: to
subtract a constant is to add its two's complement. -/

namespace Sys2Proof.Machine

/-! ## The digits of AL -/

theorem lowDigit_toNat (x : Byte) : (x &&& 0x0F).toNat = x.toNat % 16 :=
  (BitVec.toNat_and x _).trans (Nat.and_two_pow_sub_one_eq_mod _ 4)

section
variable (s : State)

theorem State.adjustLow_iff : s.adjustLow = true ↔ 9 < s.al.toNat % 16 ∨ s.flags.af = true := by
  rw [State.adjustLow, Bool.or_eq_true, decide_eq_true_iff, lowDigit_toNat]

theorem State.adjustHigh_iff : s.adjustHigh = true ↔ 0x99 < s.al.toNat ∨ s.flags.cf = true := by
  rw [State.adjustHigh, Bool.or_eq_true, decide_eq_true_iff]

variable (h l : Byte)

@[simp] theorem State.setAhAl_al : (s.setAhAl h l).regs.get8 .axAl = l := loByte_joinBytes h l
@[simp] theorem State.setAhAl_ah : (s.setAhAl h l).regs.get8 .spAh = h := hiByte_joinBytes h l

theorem State.setAhAl_frame : FrameRegs [.axAl] s (s.setAhAl h l) := .of_setRegs (s.setReg16_sameRegsBut .axAl _)

end

/-! ## AAA and AAS -/

/-- If the low digit needs it, AL moves by `d` and AH by `h`; the high digit of AL is dropped. -/
def State.asciiAdjusted (s : State) (d h : Byte) : State :=
  ((s.setAhAl (if s.adjustLow then s.ah + h else s.ah) ((if s.adjustLow then s.al + d else s.al) &&& 0x0F)).setFlags
    (s.flags.setAdjust s.adjustLow s.adjustLow)).undefine [.oF, .sf, .zf, .pf]

section
variable (s : State)

theorem exec_aaa : exec .aaa s = .next (s.asciiAdjusted 6 1) := rfl

theorem exec_aas : exec .aas s = .next (s.asciiAdjusted 250 255) := by
  show execAas s = _
  rw [execAas, BitVec.sub_eq_add_neg, BitVec.sub_eq_add_neg]
  rfl

variable (d h : Byte)

theorem State.asciiAdjusted_regs : (s.asciiAdjusted d h).regs = (s.setAhAl (if s.adjustLow then s.ah + h else s.ah)
    ((if s.adjustLow then s.al + d else s.al) &&& 0x0F)).regs := State.undefine_regs _ _

theorem State.asciiAdjusted_al : ((s.asciiAdjusted d h).regs.get8 .axAl).toNat
    = (if s.adjustLow then s.al.toNat + d.toNat else s.al.toNat) % 16 := by
  rw [State.asciiAdjusted_regs, State.setAhAl_al, lowDigit_toNat]
  split
  · rw [BitVec.toNat_add, Nat.mod_mod_of_dvd _ (by decide)]
  · rfl

theorem State.asciiAdjusted_ah : ((s.asciiAdjusted d h).regs.get8 .spAh).toNat
    = if s.adjustLow then (s.ah.toNat + h.toNat) % 256 else s.ah.toNat := by
  rw [State.asciiAdjusted_regs, State.setAhAl_ah]
  split
  · exact BitVec.toNat_add _ _
  · rfl

theorem State.asciiAdjusted_af : (s.asciiAdjusted d h).flags.af = s.adjustLow :=
  State.undefine_status _ (m := .af) (by decide)

theorem State.asciiAdjusted_cf : (s.asciiAdjusted d h).flags.cf = s.adjustLow :=
  State.undefine_status _ (m := .cf) (by decide)

end

/-! ## DAA and DAS -/

/-- AL moved by `d6` if the low digit needs it and by `d60` if the high one does. -/
def State.packedResult (s : State) (d6 d60 : Byte) : Byte :=
  s.al + (if s.adjustLow then d6 else 0) + (if s.adjustHigh then d60 else 0)

/-- That result in AL, with its SF, ZF and PF; AF and CF say which digits were adjusted. -/
def State.packedAdjusted (s : State) (d6 d60 : Byte) : State :=
  ((s.setAcc .byte (s.packedResult d6 d60)).setFlags
    ((s.flags.szp (s.packedResult d6 d60)).setAdjust s.adjustLow s.adjustHigh)).undefine [.oF]

section
variable (s : State)

theorem exec_daa : exec .daa s = .next (s.packedAdjusted 0x06 0x60) := rfl

theorem State.dasResult_eq : s.dasResult = s.packedResult 0xFA 0xA0 := by
  rw [State.dasResult, State.packedResult, BitVec.sub_eq_add_neg, BitVec.sub_eq_add_neg, apply_ite Neg.neg,
    apply_ite Neg.neg]
  rfl

theorem exec_das : exec .das s = .next (s.packedAdjusted 0xFA 0xA0) := by
  show execDas s = _
  rw [execDas, State.dasResult_eq]
  rfl

variable (d6 d60 : Byte)

theorem State.packedResult_toNat : (s.packedResult d6 d60).toNat
    = (s.al.toNat + (if s.adjustLow then d6 else 0).toNat + (if s.adjustHigh then d60 else 0).toNat) % 256 := by
  rw [State.packedResult, BitVec.toNat_add, BitVec.toNat_add, Nat.mod_add_mod]

theorem State.packedAdjusted_al : (s.packedAdjusted d6 d60).regs.get8 .axAl = s.packedResult d6 d60 := by
  rw [State.packedAdjusted, State.undefine_regs]
  exact Regs.get8_set8 s.regs .axAl _

theorem State.packedAdjusted_af : (s.packedAdjusted d6 d60).flags.af = s.adjustLow :=
  State.undefine_status _ (m := .af) (by decide)

theorem State.packedAdjusted_cf : (s.packedAdjusted d6 d60).flags.cf = s.adjustHigh :=
  State.undefine_status _ (m := .cf) (by decide)

theorem State.packedAdjusted_szp : SetsSzp (s.packedAdjusted d6 d60).flags (s.packedResult d6 d60) :=
  ((s.flags.szp_sets _).setAdjust _ _).undefine _ (by decide) (by decide) (by decide)

end

/-! ## AAM and AAD -/

/-- AH and AL replaced, with SF, ZF and PF of AL. -/
def State.digitsAdjusted (s : State) (h l : Byte) : State :=
  ((s.setAhAl h l).setFlags (s.flags.szp l)).undefine [.oF, .af, .cf]

theorem exec_aam (s : State) : exec .aam s
    = .next (s.digitsAdjusted (BitVec.ofNat 8 (s.al.toNat / 10)) (BitVec.ofNat 8 (s.al.toNat % 10))) := rfl

theorem exec_aad (s : State) : exec .aad s
    = .next (s.digitsAdjusted 0 (BitVec.ofNat 8 (s.al.toNat + 10 * s.ah.toNat))) := rfl

theorem Completes.of_digitsAdjusted {i : Instr} {s : State} {h l : Byte}
    (effect : exec i s = .next (s.digitsAdjusted h l)) :
    Completes i s fun t => t.regs.get8 .spAh = h ∧ t.regs.get8 .axAl = l ∧ SetsSzp t.flags (t.regs.get8 .axAl)
      ∧ SameFlagsBut allStatus s t ∧ FrameRegs [.axAl] s t := by
  have regs : (s.digitsAdjusted h l).regs = (s.setAhAl h l).regs := State.undefine_regs _ _
  have al : (s.digitsAdjusted h l).regs.get8 .axAl = l := by rw [regs, s.setAhAl_al]
  have szp : SetsSzp (s.digitsAdjusted h l).flags l :=
    (s.flags.szp_sets l).undefine _ (by decide) (by decide) (by decide)
  exact ⟨_, effect, by rw [regs, s.setAhAl_ah], al, by rwa [al], .of_control (by simp [State.digitsAdjusted]),
    ((s.setAhAl_frame h l).setFlags _).undefine _⟩

/-- Settles O28: the six instructions in their three pairs. -/
theorem decimalAdjustments : Obligations.DecimalAdjustments := by
  intro s al ah low high ascii packed
  have needsLow : s.adjustLow = true ↔ low := s.adjustLow_iff
  have needsHigh : s.adjustHigh = true ↔ high := s.adjustHigh_iff
  have asciiCase {i : Instr} (d h : Byte) (effect : exec i s = .next (s.asciiAdjusted d h)) :
      ascii i d.toNat h.toNat := by
    refine ⟨_, effect, fun yes => ?_, fun no => ?_, s.asciiAdjusted_af d h ▸ needsLow,
      s.asciiAdjusted_cf d h ▸ needsLow, .of_control (by simp [State.asciiAdjusted]),
      ((s.setAhAl_frame _ _).setFlags _).undefine _⟩
    · rw [s.asciiAdjusted_al, s.asciiAdjusted_ah, if_pos (needsLow.2 yes), if_pos (needsLow.2 yes)]
      exact ⟨rfl, rfl⟩
    · rw [s.asciiAdjusted_al, s.asciiAdjusted_ah, if_neg (mt needsLow.1 no), if_neg (mt needsLow.1 no)]
      exact ⟨rfl, rfl⟩
  have packedCase {i : Instr} (d6 d60 : Byte) (effect : exec i s = .next (s.packedAdjusted d6 d60)) :
      packed i d6.toNat d60.toNat := by
    refine ⟨_, effect, (if s.adjustLow then d6 else 0).toNat, (if s.adjustHigh then d60 else 0).toNat,
      fun yes => by rw [if_pos (needsLow.2 yes)], fun no => by rw [if_neg (mt needsLow.1 no)]; rfl,
      fun yes => by rw [if_pos (needsHigh.2 yes)], fun no => by rw [if_neg (mt needsHigh.1 no)]; rfl, ?_, ?_,
      s.packedAdjusted_af d6 d60 ▸ needsLow, s.packedAdjusted_cf d6 d60 ▸ needsHigh,
      .of_control (by simp [State.packedAdjusted]), ((s.setReg_frame .byte .axAl _).setFlags _).undefine _⟩
    · rw [s.packedAdjusted_al]
      exact s.packedResult_toNat d6 d60
    · rw [s.packedAdjusted_al]
      exact s.packedAdjusted_szp d6 d60
  refine ⟨asciiCase 6 1 (exec_aaa s), asciiCase 250 255 (exec_aas s), packedCase 0x06 0x60 (exec_daa s),
    packedCase 0xFA 0xA0 (exec_das s), ?_, ?_⟩
  · obtain ⟨t, effect, quotient, remainder, rest⟩ := Completes.of_digitsAdjusted (exec_aam s)
    have bound : al < 256 := s.al.isLt
    refine ⟨t, effect, ?_, ?_, rest⟩
    · rw [quotient]
      exact (BitVec.toNat_ofNat _ _).trans (Nat.mod_eq_of_lt (show al / 10 < 256 by omega))
    · rw [remainder]
      exact (BitVec.toNat_ofNat _ _).trans (Nat.mod_eq_of_lt (show al % 10 < 256 by omega))
  · obtain ⟨t, effect, zero, sum, rest⟩ := Completes.of_digitsAdjusted (exec_aad s)
    refine ⟨t, effect, zero, ?_, rest⟩
    rw [sum]
    exact BitVec.toNat_ofNat _ _

/-! ## CBW and CWD -/

/-- A double word whose high half is the sign of its low half has the signed value of the low half. -/
theorem signFill_toInt {m n : Nat} (x : BitVec n) {high : BitVec m} (fill : high.toInt = if x.msb then -1 else 0) :
    high.toInt * 2 ^ n + x.toNat = x.toInt := by
  rw [fill, x.toInt_eq_msb_cond]
  split
  · push_cast
    ring
  · simp

/-- Settles O29: AH is the sign of AL, DX the sign of AX. -/
theorem signExtensions : Obligations.SignExtensions := by
  intro s
  refine ⟨⟨rfl, _, rfl, ?_, ?_, rfl, s.setAhAl_frame _ _⟩, rfl, _, rfl, ?_, ?_, rfl,
    .of_setRegs (s.setReg16_sameRegsBut _ _)⟩
  · rw [s.setAhAl_ah, BitVec.msb_eq_getLsbD_last]
    rfl
  · refine (append_toInt (by decide) _ _).trans (signFill_toInt s.al ?_)
    split <;> rfl
  · show (if s.regs.ax.msb then 0xFFFF else 0x0000) = _
    rw [BitVec.msb_eq_getLsbD_last]
  · refine signFill_toInt (high := if s.regs.ax.msb then 0xFFFF else 0) s.regs.ax ?_
    split <;> rfl

end Sys2Proof.Machine
end

section
/-! The logic instructions (42_logic_shift_rotate.md rules R210, R211 and R221 to R232): AND, OR and XOR are one shared
operation on a result computed bit by bit, TEST its flags alone, and NOT a store without flags. -/

namespace Sys2Proof.Machine

/-! ## The flags of a result -/

theorem Holds.undefine {s t : State} {w : Width} {dst : Rm} {v : BitVec w.bits} (h : Holds s t w dst v)
    (plain : Plain t) (ns : List StatusFlag) : Holds s (t.undefine ns) w dst v := by
  cases dst with
  | reg r =>
    show (t.undefine ns).regs.get w r = v
    rw [State.undefine_regs]
    exact h
  | mem m => exact fun ram => (State.readSeg_congr plain (by simp) (by simp) _ _ _).trans (h ram)

/-- OF and CF are cleared and AF is drawn, whatever the flags were (rule R211). -/
theorem State.logicFlags_logicFlags {s t : State} (same : t.flags = s.flags) {n : Nat} (r : BitVec n) :
    LogicFlags s (t.logicFlags r) r :=
  ⟨SetsSzp.undefine (f := t.flags.logic r) (t.flags.szp_sets r) t (by decide) (by decide) (by decide),
    State.undefine_status _ (m := .oF) (by decide), State.undefine_status _ (m := .cf) (by decide),
    .of_control (by simp [same])⟩

theorem Holds.logicFlags {s t : State} {w : Width} {dst : Rm} {v : BitVec w.bits} (h : Holds s t w dst v)
    (plain : Plain t) {n : Nat} (r : BitVec n) : Holds s (t.logicFlags r) w dst v := by
  have plain' : Plain (t.setFlags (t.flags.logic r)) := plain.of_env rfl
  rw [State.logicFlags]
  exact (h.setFlags plain _).undefine plain' _

theorem FrameOf.logicFlags {s t : State} {w : Width} {dst : Rm} (h : FrameOf w dst s t) {n : Nat} (r : BitVec n) :
    FrameOf w dst s (t.logicFlags r) := (h.setFlags _).undefine _

theorem FrameRegs.logicFlags {s t : State} {rs : List Reg} (h : FrameRegs rs s t) {n : Nat} (r : BitVec n) :
    FrameRegs rs s (t.logicFlags r) := (h.setFlags _).undefine _

/-! ## The shared operations -/

section
variable {s : State} (plain : Plain s) {i : Instr} {w : Width}
include plain

theorem CombinesBits.of_logicTo {rm dst : Rm} {b r : BitVec w.bits} {f : Bool → Bool → Bool}
    (effect : exec i s = .next (s.logicTo w rm dst r))
    (bits : ∀ k, r.getLsbD k = f ((s.readRm w dst).getLsbD k) (b.getLsbD k)) : CombinesBits s f i w dst b := by
  rw [State.logicTo, State.afterRm_plain plain] at effect
  have plain' : Plain (s.writeRm w dst r) := plain.of_env (State.writeRm_env_plain plain w dst r).1
  have holds := (State.writeRm_holds plain w dst r).logicFlags plain' r
  have frame := (State.writeRm_frame plain w dst r).logicFlags r
  exact ⟨_, effect, r, fun k _ => bits k, holds, State.logicFlags_logicFlags (s.writeRm_flags w dst r) r, frame⟩

theorem TestsBits.of_logicFlags {rm : Rm} {a b : BitVec w.bits}
    (effect : exec i s = .next ((s.afterRm w rm).logicFlags (a &&& b))) : TestsBits s i w a b := by
  rw [State.afterRm_plain plain] at effect
  have frame : FrameRegs [] s s := .of_setRegs (g := s.regs) (.refl _ s)
  exact ⟨_, effect, _, fun k _ => BitVec.getLsbD_and, State.logicFlags_logicFlags rfl _, frame.logicFlags _⟩

theorem exec_not_plain (w : Width) (rm : Rm) : exec (.not w rm) s = .next (s.writeRm w rm (~~~ s.readRm w rm)) := by
  show execNot w rm s = _
  rw [execNot, State.afterRm_plain plain]

end

/-- The six forms are one operation on other operands: `rm` is read over the bus, `dst` and the last operand are
combined. -/
theorem LogicForms.of_exec {s : State} {rmReg : Width → Dir → Rm → Reg → Instr} {rmImm : Imm → Rm → Instr}
    {accImm : Imm → Instr} {P : Instr → (w : Width) → Rm → BitVec w.bits → Prop}
    (op : (w : Width) → Rm → Rm → BitVec w.bits → State)
    (of_op : ∀ {i w rm dst b}, exec i s = .next (op w rm dst b) → P i w dst b)
    (regForm : ∀ w d rm reg,
      exec (rmReg w d rm reg) s = .next (op w rm (destOperand d rm reg) (s.sourceOperand w d rm reg)))
    (immForm : ∀ imm rm, exec (rmImm imm rm) s = .next (op (immWidth imm) rm rm (immValue imm)))
    (accForm : ∀ imm, exec (accImm imm) s = .next (op (immWidth imm) (.reg .axAl) (.reg .axAl) (immValue imm))) :
    LogicForms s rmReg rmImm accImm P :=
  ⟨fun w rm reg => of_op (regForm w .fromReg rm reg), fun w rm reg => of_op (regForm w .toReg rm reg),
    fun v rm => of_op (immForm (.byte v) rm), fun v rm => of_op (immForm (.word v) rm),
    fun v => of_op (accForm (.byte v)), fun v => of_op (accForm (.word v))⟩

/-! ## The statement -/

/-- Settles O30: every form of AND, OR and XOR is `logicTo` of its result, every form of TEST the flags of an AND. -/
theorem logicResult : Obligations.LogicResult := by
  intro s plain
  have tests {i w rm a b} (effect : exec i s = .next ((s.afterRm w rm).logicFlags (a &&& b))) : TestsBits s i w a b :=
    .of_logicFlags plain effect
  refine ⟨?and, ?or, ?xor, fun w rm reg => tests rfl, fun v rm => tests rfl, fun v rm => tests rfl,
    fun v => tests (rm := .reg .axAl) rfl, fun v => tests (rm := .reg .axAl) rfl, fun w rm => ?not⟩
  case and =>
    exact .of_exec (fun w rm dst b => s.logicTo w rm dst (s.readRm w dst &&& b))
      (fun effect => .of_logicTo plain effect fun _ => BitVec.getLsbD_and) (fun _ _ _ _ => rfl) (fun _ _ => rfl)
      fun _ => rfl
  case or =>
    exact .of_exec (fun w rm dst b => s.logicTo w rm dst (s.readRm w dst ||| b))
      (fun effect => .of_logicTo plain effect fun _ => BitVec.getLsbD_or) (fun _ _ _ _ => rfl) (fun _ _ => rfl)
      fun _ => rfl
  case xor =>
    exact .of_exec (fun w rm dst b => s.logicTo w rm dst (s.readRm w dst ^^^ b))
      (fun effect => .of_logicTo plain effect fun _ => BitVec.getLsbD_xor) (fun _ _ _ _ => rfl) (fun _ _ => rfl)
      fun _ => rfl
  case not =>
    obtain ⟨t, effect, holds, flags, frame⟩ := Completes.of_writeRm plain (exec_not_plain plain w rm)
    exact ⟨t, effect, _, fun k bound => by simp [bound], holds, flags, frame⟩

end Sys2Proof.Machine
end

section
/-! Shifts and rotates of a word (42_logic_shift_rotate.md rules R213 to R220): what a number of one-bit steps gives, for
words of every width. Each operation moves a view of the operand and CF by one place a step, the operand alone or the
N + 1 bits CF:E; so `count` steps move it by `count` places. -/

namespace Sys2Proof.Machine

/-! ## Rotations, and the signed value of a word -/

section
variable {n : Nat} (x : BitVec n)

theorem rotateLeft_zero : x.rotateLeft 0 = x := by simp [BitVec.rotateLeft_def, BitVec.ushiftRight_eq_zero]

theorem rotateRight_zero : x.rotateRight 0 = x := by simp [BitVec.rotateRight_def]

theorem rotateLeft_rotateLeft (k m : Nat) : (x.rotateLeft k).rotateLeft m = x.rotateLeft (k + m) := by
  refine BitVec.eq_of_getMsbD_eq fun i bound => ?_
  have inside : (m + i) % n < n := Nat.mod_lt _ (by omega)
  simp only [BitVec.getMsbD_rotateLeft, bound, inside, decide_true, Bool.true_and, Nat.add_mod_mod, Nat.add_assoc]

theorem getLsbD_rotateRight_mod {k i : Nat} (bound : i < n) : (x.rotateRight k).getLsbD i = x.getLsbD ((k + i) % n) := by
  have inside : k % n < n := Nat.mod_lt _ (by omega)
  rw [BitVec.getLsbD_rotateRight, ← Nat.mod_add_mod]
  by_cases low : i < n - k % n
  · rw [decide_eq_true low, cond_true, Nat.mod_eq_of_lt (show k % n + i < n by omega)]
  · rw [decide_eq_false low, cond_false, decide_eq_true bound, Bool.true_and,
      Nat.mod_eq_sub_mod (show n ≤ k % n + i by omega), Nat.mod_eq_of_lt (show k % n + i - n < n by omega)]
    congr 1
    omega

theorem rotateRight_rotateRight (k m : Nat) : (x.rotateRight k).rotateRight m = x.rotateRight (k + m) := by
  refine BitVec.eq_of_getLsbD_eq fun i bound => ?_
  have inside : (m + i) % n < n := Nat.mod_lt _ (by omega)
  rw [getLsbD_rotateRight_mod _ bound, getLsbD_rotateRight_mod _ inside, getLsbD_rotateRight_mod _ bound,
    Nat.add_mod_mod, Nat.add_assoc]

theorem getLsbD_zero_iff_toInt (pos : 0 < n) : x.getLsbD 0 = true ↔ x.toInt % 2 = 1 := by
  have double := two_pow_eq_double pos
  rw [← BitVec.testBit_toNat, Nat.testBit_zero, decide_eq_true_iff, BitVec.toInt]
  split <;> omega

theorem toInt_sshiftRight_div (k : Nat) : (x.sshiftRight k).toInt = x.toInt / 2 ^ k := by
  rw [BitVec.toInt_sshiftRight, Int.shiftRight_eq_div_pow]
  norm_cast

end

/-! ## One step -/

/-- The N + 1 bits CF:E. -/
def carryBits {n : Nat} (x : BitVec n × Bool) : BitVec (1 + n) := BitVec.ofBool x.2 ++ x.1

section
variable {n : Nat} (y : BitVec n) (b : Bool) {i : Nat} (bound : i < n)
include bound

/-- One place to the left, with `b` moved in. -/
theorem getLsbD_shiftLeft_or : (y <<< 1 ||| (BitVec.ofBool b).setWidth n).getLsbD i
    = if i = 0 then b else y.getLsbD (i - 1) := by
  by_cases bottom : i = 0
  · simp [bottom, show 0 < n by omega]
  · simp [bottom, bound, -BitVec.getLsbD_eq_getElem]

/-- One place to the right, with `b` moved in. -/
theorem getLsbD_ushiftRight_or : (y >>> 1 ||| (BitVec.ofBool b).setWidth n <<< (n - 1)).getLsbD i
    = if i = n - 1 then b else y.getLsbD (1 + i) := by
  by_cases top : i = n - 1
  · simp [top, show 0 < n by omega, y.getLsbD_of_ge (1 + (n - 1)) (by omega)]
  · simp [top, show i < n - 1 by omega]

end

/-- Bit N of CF:E is CF. -/
theorem getLsbD_carryBits {n : Nat} (x : BitVec n × Bool) (i : Nat) :
    (carryBits x).getLsbD i = if i < n then x.1.getLsbD i else decide (i = n) && x.2 := by
  rw [carryBits, BitVec.getLsbD_append, BitVec.getLsbD_ofBool]
  by_cases inside : i < n
  · simp [inside]
  · simp [inside, show i - n = 0 ↔ i = n by omega]

section
variable {n : Nat} (wide : 1 < n) (x : BitVec n × Bool)
include wide

theorem shiftStep_rol_fst : (shiftStep .rol x).1 = x.1.rotateLeft 1 := by
  refine BitVec.eq_of_getLsbD_eq fun i bound => ?_
  rw [shiftStep, getLsbD_shiftLeft_or _ _ bound, BitVec.getLsbD_rotateLeft, Nat.mod_eq_of_lt wide]
  by_cases bottom : i = 0
  · simp [bottom, BitVec.msb_eq_getLsbD_last]
  · simp [bottom, bound]

theorem shiftStep_ror_fst : (shiftStep .ror x).1 = x.1.rotateRight 1 := by
  refine BitVec.eq_of_getLsbD_eq fun i bound => ?_
  rw [shiftStep, getLsbD_ushiftRight_or _ _ bound, getLsbD_rotateRight_mod _ bound]
  by_cases top : i = n - 1
  · simp [top, show 1 + (n - 1) = n by omega]
  · simp [top, Nat.mod_eq_of_lt (show 1 + i < n by omega)]

theorem shiftStep_sar_fst : (shiftStep .sar x).1 = x.1.sshiftRight 1 := by
  refine BitVec.eq_of_getLsbD_eq fun i bound => ?_
  rw [shiftStep, getLsbD_ushiftRight_or _ _ bound, BitVec.getLsbD_sshiftRight]
  by_cases top : i = n - 1
  · simp [top, show ¬ n ≤ n - 1 by omega, show ¬ 1 + (n - 1) < n by omega]
  · simp [top, show ¬ n ≤ i by omega, show 1 + i < n by omega]

theorem shiftStep_rcl_carryBits : carryBits (shiftStep .rcl x) = (carryBits x).rotateLeft 1 := by
  refine BitVec.eq_of_getLsbD_eq fun i bound => ?_
  rw [BitVec.getLsbD_rotateLeft, Nat.mod_eq_of_lt (show 1 < 1 + n by omega)]
  simp only [getLsbD_carryBits]
  by_cases inside : i < n
  · rw [shiftStep, getLsbD_shiftLeft_or _ _ inside]
    by_cases bottom : i = 0
    · simp [bottom, show 0 < n by omega]
    · simp [bottom, bound, inside, show i - 1 < n by omega]
  · simp [shiftStep, show i = n by omega, BitVec.msb_eq_getLsbD_last, show n ≠ 0 by omega, show n - 1 < n by omega]

theorem shiftStep_rcr_carryBits : carryBits (shiftStep .rcr x) = (carryBits x).rotateRight 1 := by
  refine BitVec.eq_of_getLsbD_eq fun i bound => ?_
  rw [getLsbD_rotateRight_mod _ bound]
  simp only [getLsbD_carryBits]
  by_cases inside : i < n
  · rw [shiftStep, getLsbD_ushiftRight_or _ _ inside, Nat.mod_eq_of_lt (show 1 + i < 1 + n by omega)]
    by_cases top : i = n - 1
    · simp [top, show 1 + (n - 1) = n by omega, show n - 1 < n by omega]
    · simp [top, inside, show 1 + i < n by omega]
  · simp [shiftStep, show i = n by omega, show 0 < n by omega]

end

/-! ## All the steps -/

section
variable {n : Nat} {op : ShiftOp}

/-- The last step, where `shiftIter` takes the first one out. -/
theorem shiftIter_succ (k : Nat) (x : BitVec n × Bool) : shiftIter op (k + 1) x = shiftStep op (shiftIter op k x) := by
  induction k generalizing x with
  | zero => rfl
  | succ k ih => exact ih (shiftStep op x)

/-- If one step moves what `view` sees by one place, `count` steps move it by `count` places. -/
theorem shiftIter_moves {α : Type} (view : BitVec n × Bool → α) (move : α → Nat → α) (move_zero : ∀ y, move y 0 = y)
    (move_succ : ∀ y k, move y (k + 1) = move (move y k) 1) (step : ∀ x, view (shiftStep op x) = move (view x) 1)
    (count : Nat) (x : BitVec n × Bool) : view (shiftIter op count x) = move (view x) count := by
  induction count with
  | zero => exact (move_zero _).symm
  | succ k ih => rw [shiftIter_succ, step, ih, ← move_succ]

end

section
variable {n : Nat} (count : Nat) (x : BitVec n × Bool)

theorem shiftIter_shl_fst : (shiftIter .shl count x).1 = x.1 <<< count :=
  shiftIter_moves Prod.fst (· <<< ·) BitVec.shiftLeft_zero (fun y k => y.shiftLeft_add k 1) (fun _ => rfl) count x

theorem shiftIter_shr_fst : (shiftIter .shr count x).1 = x.1 >>> count :=
  shiftIter_moves Prod.fst (· >>> ·) BitVec.ushiftRight_zero (fun y k => y.shiftRight_add k 1) (fun _ => rfl) count x

variable (wide : 1 < n)
include wide

theorem shiftIter_sar_fst : (shiftIter .sar count x).1 = x.1.sshiftRight count :=
  shiftIter_moves Prod.fst BitVec.sshiftRight (fun _ => BitVec.sshiftRight_zero) (fun _ _ => BitVec.sshiftRight_add)
    (shiftStep_sar_fst wide) count x

theorem shiftIter_rol_fst : (shiftIter .rol count x).1 = x.1.rotateLeft count :=
  shiftIter_moves Prod.fst BitVec.rotateLeft rotateLeft_zero (fun y k => (rotateLeft_rotateLeft y k 1).symm)
    (shiftStep_rol_fst wide) count x

theorem shiftIter_ror_fst : (shiftIter .ror count x).1 = x.1.rotateRight count :=
  shiftIter_moves Prod.fst BitVec.rotateRight rotateRight_zero (fun y k => (rotateRight_rotateRight y k 1).symm)
    (shiftStep_ror_fst wide) count x

theorem shiftIter_rcl_carryBits : carryBits (shiftIter .rcl count x) = (carryBits x).rotateLeft count :=
  shiftIter_moves carryBits BitVec.rotateLeft rotateLeft_zero (fun y k => (rotateLeft_rotateLeft y k 1).symm)
    (shiftStep_rcl_carryBits wide) count x

theorem shiftIter_rcr_carryBits : carryBits (shiftIter .rcr count x) = (carryBits x).rotateRight count :=
  shiftIter_moves carryBits BitVec.rotateRight rotateRight_zero (fun y k => (rotateRight_rotateRight y k 1).symm)
    (shiftStep_rcr_carryBits wide) count x

end

/-! ## CF after the last step -/

section
variable {n : Nat} {count : Nat} (nonzero : count ≠ 0) (x : BitVec n × Bool)
include nonzero

theorem shiftIter_shl_snd (below : count < n) : (shiftIter .shl count x).2 = x.1.getLsbD (n - count) := by
  obtain ⟨k, rfl⟩ := Nat.exists_eq_succ_of_ne_zero nonzero
  rw [shiftIter_succ]
  show (shiftIter .shl k x).1.msb = _
  rw [shiftIter_shl_fst, BitVec.msb_shiftLeft, BitVec.getMsbD_eq_getLsbD, decide_eq_true (show k < n by omega),
    Bool.true_and, Nat.sub_sub, Nat.add_comm 1 k]

theorem shiftIter_shr_snd : (shiftIter .shr count x).2 = x.1.getLsbD (count - 1) := by
  obtain ⟨k, rfl⟩ := Nat.exists_eq_succ_of_ne_zero nonzero
  rw [shiftIter_succ]
  show (shiftIter .shr k x).1.getLsbD 0 = _
  rw [shiftIter_shr_fst, BitVec.getLsbD_ushiftRight]
  rfl

theorem shiftIter_sar_snd (wide : 1 < n) : (shiftIter .sar count x).2 = true
    ↔ x.1.toInt / 2 ^ (count - 1) % 2 = 1 := by
  obtain ⟨k, rfl⟩ := Nat.exists_eq_succ_of_ne_zero nonzero
  rw [shiftIter_succ]
  show (shiftIter .sar k x).1.getLsbD 0 = true ↔ _
  rw [getLsbD_zero_iff_toInt _ (by omega), shiftIter_sar_fst _ _ wide, toInt_sshiftRight_div]
  rfl

/-- The bit that leaves at the top enters at the bottom. -/
theorem shiftIter_rol_snd (wide : 1 < n) : (shiftIter .rol count x).2 = (shiftIter .rol count x).1.getLsbD 0 := by
  obtain ⟨k, rfl⟩ := Nat.exists_eq_succ_of_ne_zero nonzero
  rw [shiftIter_succ, shiftStep, getLsbD_shiftLeft_or _ _ (by omega), if_pos rfl]

/-- The bit that leaves at the bottom enters at the top. -/
theorem shiftIter_ror_snd (wide : 1 < n) : (shiftIter .ror count x).2 = (shiftIter .ror count x).1.msb := by
  obtain ⟨k, rfl⟩ := Nat.exists_eq_succ_of_ne_zero nonzero
  rw [shiftIter_succ, shiftStep, BitVec.msb_eq_getLsbD_last, getLsbD_ushiftRight_or _ _ (by omega), if_pos rfl]

end

end Sys2Proof.Machine
end

section
/-! The shift and rotate instructions (42_logic_shift_rotate.md rules R212 to R220; 92_eei_decisions.md D28 and D29): the
operand after all the steps is stored, and the flags the operation defines are set. -/

namespace Sys2Proof.Machine

/-! ## Which flags are defined -/

/-- The three operations that set SF, ZF and PF. -/
def shifting : List ShiftOp := [.shl, .shr, .sar]

theorem mem_shiftUndefined {op : ShiftOp} {n count : Nat} {m : StatusFlag} : m ∈ shiftUndefined op n count
    ↔ m = .oF ∧ count ≠ 1 ∨ m = .af ∧ op ∈ shifting ∨ m = .cf ∧ n ≤ count ∧ (op = .shl ∨ op = .shr) := by
  have overflow : m ∈ (if count = 1 then [] else [StatusFlag.oF]) ↔ m = .oF ∧ count ≠ 1 := by split <;> simp [*]
  unfold shiftUndefined
  rw [List.mem_append, overflow]
  cases op with
  | rol | ror | rcl | rcr | sar => simp [shifting]
  | shl | shr => by_cases above : n ≤ count <;> simp [shifting, above]

section
variable {n : Nat} {op : ShiftOp} (count : Nat) (f : Flags) (x0 : BitVec n) (x : BitVec n × Bool)

theorem shiftFlags_cf : (shiftFlags op count f x0 x).cf = x.2 := by cases op <;> rfl

theorem shiftFlags_oF : (shiftFlags op 1 f x0 x).oF = shiftOverflow op x0 x.1 x.2 := by cases op <;> rfl

theorem shiftFlags_szp (shifts : op ∈ shifting) : SetsSzp (shiftFlags op count f x0 x) x.1 := by
  simp only [shifting, List.mem_cons, List.not_mem_nil, or_false] at shifts
  rcases shifts with rfl | rfl | rfl
  all_goals exact f.szp_sets x.1

theorem shiftFlags_status (rotates : op ∉ shifting) {m : StatusFlag} (unnamed : m ∉ [StatusFlag.cf, .oF]) :
    (shiftFlags op count f x0 x).status m = f.status m := by
  cases op with
  | shl | shr | sar => simp [shifting] at rotates
  | rol | ror | rcl | rcr =>
    cases m with
    | cf | oF => simp at unnamed
    | pf | af | zf | sf => rfl

end

/-! ## The shared operation -/

/-- The operand and CF after all the steps. -/
def State.shiftResult (s : State) (op : ShiftOp) (w : Width) (v : Count) (rm : Rm) : BitVec w.bits × Bool :=
  shiftIter op (s.shiftCount v) (s.readRm w rm, s.flags.cf)

section
variable {s : State} (plain : Plain s) {op : ShiftOp} {w : Width} {v : Count} {rm : Rm}
include plain

theorem State.shift_of_zero (zero : s.shiftCount v = 0) : s.shift op w v rm = s := by
  rw [State.shift, if_pos zero, State.afterRm_plain plain]

variable (nonzero : s.shiftCount v ≠ 0)
include nonzero

theorem State.shift_of_ne_zero : s.shift op w v rm
    = ((s.writeRm w rm (s.shiftResult op w v rm).1).setFlags
        (shiftFlags op (s.shiftCount v) s.flags (s.readRm w rm) (s.shiftResult op w v rm))).undefine
          (shiftUndefined op w.bits (s.shiftCount v)) := by
  rw [State.shift, if_neg nonzero, State.afterRm_plain plain]
  rfl

theorem State.shift_holds : Holds s (s.shift op w v rm) w rm (s.shiftResult op w v rm).1 := by
  rw [State.shift_of_ne_zero plain nonzero]
  refine (State.writeRm_setFlags_holds plain w rm _ _).undefine (plain.of_env ?_) _
  exact (State.writeRm_env_plain plain w rm _).1

theorem State.shift_frame : FrameOf w rm s (s.shift op w v rm) := by
  rw [State.shift_of_ne_zero plain nonzero]
  exact (State.writeRm_setFlags_frame plain w rm _ _).undefine _

/-- A flag the operation does not leave undefined. -/
theorem State.shift_status {m : StatusFlag} (defined : m ∉ shiftUndefined op w.bits (s.shiftCount v)) :
    (s.shift op w v rm).flags.status m
      = (shiftFlags op (s.shiftCount v) s.flags (s.readRm w rm) (s.shiftResult op w v rm)).status m := by
  rw [State.shift_of_ne_zero plain nonzero]
  exact State.undefine_status _ defined

theorem State.shift_cf (defined : op = .shl ∨ op = .shr → s.shiftCount v < w.bits) :
    (s.shift op w v rm).flags.cf = (s.shiftResult op w v rm).2 := by
  refine (State.shift_status plain nonzero (m := .cf) ?_).trans (shiftFlags_cf _ _ _ _)
  rw [mem_shiftUndefined]
  rintro (⟨⟨⟩, _⟩ | ⟨⟨⟩, _⟩ | ⟨_, above, form⟩)
  exact absurd (defined form) (Nat.not_lt.2 above)

theorem State.shift_oF (one : s.shiftCount v = 1) : (s.shift op w v rm).flags.oF
    = shiftOverflow op (s.readRm w rm) (s.shiftResult op w v rm).1 (s.shift op w v rm).flags.cf := by
  rw [State.shift_cf plain nonzero fun _ => one ▸ w.one_lt_bits]
  refine (State.shift_status plain nonzero (m := .oF) ?_).trans ?_
  · simp [mem_shiftUndefined, one]
  · rw [one]
    exact shiftFlags_oF _ _ _

theorem State.shift_szp (shifts : op ∈ shifting) :
    SetsSzp (s.shift op w v rm).flags (s.shiftResult op w v rm).1 := by
  rw [State.shift_of_ne_zero plain nonzero]
  refine (shiftFlags_szp _ _ _ _ shifts).undefine _ ?_ ?_ ?_
  all_goals simp [mem_shiftUndefined]

theorem State.shift_sameFlags (rotates : op ∉ shifting) : SameFlagsBut [.cf, .oF] s (s.shift op w v rm) := by
  obtain ⟨tf, iF, df⟩ := Flags.control_eq_iff.1 (s.shift_sameMode op w v rm).control
  refine ⟨tf, iF, df, fun m unnamed => ?_⟩
  refine (State.shift_status plain nonzero ?_).trans (shiftFlags_status _ _ _ _ rotates unnamed)
  simp only [List.mem_cons, List.not_mem_nil, or_false, not_or] at unnamed
  simp [mem_shiftUndefined, rotates, unnamed]

theorem Shifts.of_shift {i : Instr} {ns : List StatusFlag} {R : BitVec w.bits → Bool → BitVec w.bits → Flags → Prop}
    (effect : exec i s = .next (s.shift op w v rm)) (same : SameFlagsBut ns s (s.shift op w v rm))
    (result : R (s.readRm w rm) s.flags.cf (s.shiftResult op w v rm).1 (s.shift op w v rm).flags) :
    Shifts s i w rm ns R :=
  ⟨_, effect, _, result, State.shift_holds plain nonzero, same, State.shift_frame plain nonzero⟩

end

/-! ## The statements -/

/-- Settles O31: the three shifts, each with the value of its steps and the last bit shifted out. -/
theorem shiftResult : Obligations.ShiftResult := by
  intro s w v rm c plain counted
  obtain rfl : c = s.shiftCount v := by cases v <;> exact counted
  refine ⟨fun zero i form => ?still, fun nonzero => ⟨?shl, ?shr, ?sar⟩⟩
  case still =>
    rcases form with rfl | rfl | rfl
    all_goals exact congrArg Host.Outcome.next (State.shift_of_zero plain zero)
  case shl =>
    refine .of_shift plain nonzero rfl (.of_control (s.shift_sameMode ..).control)
      ⟨?_, State.shift_szp plain nonzero (by decide), fun below => ?_, State.shift_oF plain nonzero⟩
    · rw [State.shiftResult, shiftIter_shl_fst, BitVec.toNat_shiftLeft, Nat.shiftLeft_eq]
    · rw [State.shift_cf plain nonzero fun _ => below]
      exact shiftIter_shl_snd nonzero _ below
  case shr =>
    refine .of_shift plain nonzero rfl (.of_control (s.shift_sameMode ..).control)
      ⟨?_, State.shift_szp plain nonzero (by decide), fun below => ?_, State.shift_oF plain nonzero⟩
    · rw [State.shiftResult, shiftIter_shr_fst, BitVec.toNat_ushiftRight, Nat.shiftRight_eq_div_pow]
    · rw [State.shift_cf plain nonzero fun _ => below]
      exact shiftIter_shr_snd nonzero _
  case sar =>
    refine .of_shift plain nonzero rfl (.of_control (s.shift_sameMode ..).control)
      ⟨?_, State.shift_szp plain nonzero (by decide), ?_, State.shift_oF plain nonzero⟩
    · rw [State.shiftResult, shiftIter_sar_fst _ _ w.one_lt_bits, toInt_sshiftRight_div]
    · rw [State.shift_cf plain nonzero (by simp)]
      exact shiftIter_sar_snd nonzero _ w.one_lt_bits

/-- Settles O32: the four rotates, ROL and ROR of the operand, RCL and RCR of CF:E. -/
theorem rotateResult : Obligations.RotateResult := by
  intro s w v rm c plain counted
  obtain rfl : c = s.shiftCount v := by cases v <;> exact counted
  refine ⟨fun zero i form => ?still, fun nonzero => ⟨?rol, ?ror, ?rcl, ?rcr⟩⟩
  case still =>
    rcases form with rfl | rfl | rfl | rfl
    all_goals exact congrArg Host.Outcome.next (State.shift_of_zero plain zero)
  case rol =>
    refine .of_shift plain nonzero rfl (State.shift_sameFlags plain nonzero (by decide))
      ⟨shiftIter_rol_fst _ _ w.one_lt_bits, ?_, State.shift_oF plain nonzero⟩
    rw [State.shift_cf plain nonzero (by simp)]
    exact shiftIter_rol_snd nonzero _ w.one_lt_bits
  case ror =>
    refine .of_shift plain nonzero rfl (State.shift_sameFlags plain nonzero (by decide))
      ⟨shiftIter_ror_fst _ _ w.one_lt_bits, ?_, State.shift_oF plain nonzero⟩
    rw [State.shift_cf plain nonzero (by simp)]
    exact shiftIter_ror_snd nonzero _ w.one_lt_bits
  case rcl =>
    refine .of_shift plain nonzero rfl (State.shift_sameFlags plain nonzero (by decide))
      ⟨?_, State.shift_oF plain nonzero⟩
    rw [State.shift_cf plain nonzero (by simp)]
    exact shiftIter_rcl_carryBits _ _ w.one_lt_bits
  case rcr =>
    refine .of_shift plain nonzero rfl (State.shift_sameFlags plain nonzero (by decide))
      ⟨?_, State.shift_oF plain nonzero⟩
    rw [State.shift_cf plain nonzero (by simp)]
    exact shiftIter_rcr_carryBits _ _ w.one_lt_bits

end Sys2Proof.Machine
end

section
/-! One element of a string primitive (43_string.md rules R243 to R249; 92_eei_decisions.md D3, D27 and D33). On a plain
machine an element is a store, a comparison or a load of the accumulator, and then the steps of its index registers. -/

namespace Sys2Proof.Machine

/-! ## The steps of the index registers -/

/-- DF decides the size of a step, and it is a control flag. -/
theorem State.stringDelta_of_control {s u : State} (control : u.flags.control = s.flags.control) (w : Width) :
    u.stringDelta w = elementStep s.flags.df w := by
  obtain ⟨-, -, df⟩ := Flags.control_eq_iff.1 control
  unfold State.stringDelta elementStep
  rw [df]
  cases w <;> cases s.flags.df <;> rfl

theorem SameRegsBut.mono {rs rs' : List Reg} {s t : State} (h : SameRegsBut rs s t) (wider : rs ⊆ rs') :
    SameRegsBut rs' s t := fun q unnamed => h q (mt (@wider q) unnamed)

/-- A store and a comparison leave the registers and the control flags to the steps that follow. -/
structure Unstepped (s u : State) : Prop where
  regs : u.regs = s.regs
  control : u.flags.control = s.flags.control

section
variable {s u : State} (h : Unstepped s u) (w : Width)
include h

theorem Unstepped.sameRegsBut (rs : List Reg) : SameRegsBut rs s u := fun _ _ => by rw [h.regs]

theorem Unstepped.stepDi : (u.stepDi w).regs.di = s.regs.di + elementStep s.flags.df w
    ∧ SameRegsBut [.diBh] s (u.stepDi w) := by
  refine ⟨?_, (h.sameRegsBut _).setReg16 (by simp) _⟩
  rw [← State.stringDelta_of_control h.control, ← h.regs]
  rfl

theorem Unstepped.stepSi_stepDi : ((u.stepSi w).stepDi w).regs.si = s.regs.si + elementStep s.flags.df w
    ∧ ((u.stepSi w).stepDi w).regs.di = s.regs.di + elementStep s.flags.df w
    ∧ SameRegsBut [.siDh, .diBh] s ((u.stepSi w).stepDi w) := by
  refine ⟨?_, ?_, ((h.sameRegsBut _).setReg16 (by simp) _).setReg16 (by simp) _⟩
  all_goals
    rw [← State.stringDelta_of_control h.control, ← h.regs]
    rfl

end

theorem State.writeSeg_unstepped (s : State) (sg off : Word) (w : Width) (v : BitVec w.bits) :
    Unstepped s (s.writeSeg sg off w v) := ⟨by simp, by simp⟩

theorem State.compare_unstepped (s : State) {n : Nat} (a b : BitVec n) : Unstepped s (s.compare a b) :=
  ⟨rfl, by simp⟩

/-- AL is the low half of AX, so a load of the accumulator of either width writes AX only (10_state.md rule R22). -/
theorem State.setAcc_sameRegsBut (s : State) (w : Width) (v : BitVec w.bits) :
    SameRegsBut [.axAl] s (s.setAcc w v) := by
  cases w with
  | byte => exact s.setReg16_sameRegsBut .axAl (joinBytes (hiByte s.regs.ax) v)
  | word => exact s.setReg16_sameRegsBut .axAl v

theorem State.stepSi_acc (s : State) (w : Width) : (s.stepSi w).reg w .axAl = s.reg w .axAl := by cases w <;> rfl

/-! ## An unrepeated element -/

section
variable {s : State} (plain : Plain s) (w : Width)
include plain

theorem State.movsElement_plain :
    s.movsElement w = ((s.writeSeg s.segs.es s.regs.di w (s.sourceElement w)).stepSi w).stepDi w := by
  rw [State.movsElement, State.afterSource_plain plain]

theorem State.cmpsElement_plain :
    s.cmpsElement w = ((s.compare (s.sourceElement w) (s.destElement w)).stepSi w).stepDi w := by
  simp only [State.cmpsElement, State.afterSource_plain plain, State.afterDest_plain plain]

theorem State.scasElement_plain : s.scasElement w = (s.compare (s.acc w) (s.destElement w)).stepDi w := by
  rw [State.scasElement, State.afterDest_plain plain]

theorem State.lodsElement_plain : s.lodsElement w = (s.setAcc w (s.sourceElement w)).stepSi w := by
  rw [State.lodsElement, State.afterSource_plain plain]

theorem InProgress.element_env_plain (p : InProgress) : (p.element s).env = s.env := by
  cases p with
  | wait => rfl
  | movs w =>
    exact (congrArg State.env (State.movsElement_plain plain w)).trans
      (State.writeSeg_env_plain plain _ _ w _).1
  | cmps w => exact (congrArg State.env (State.cmpsElement_plain plain w)).trans rfl
  | scas w => exact (congrArg State.env (State.scasElement_plain plain w)).trans rfl
  | lods w => exact (congrArg State.env (State.lodsElement_plain plain w)).trans rfl
  | stos w => exact (State.writeSeg_env_plain plain _ _ w _).1

/-- An element completes its instruction, with all but its registers framed. -/
theorem Completes.of_element {p : InProgress} (notWait : p ≠ .wait) (once : s.pre.rep = none) {u : State}
    (element : p.element s = u) {rs : List Reg} (kept : SameRegsBut rs s u) {P : State → Prop}
    (effect : StringFrame s u.lastTurn rs → P u.lastTurn) : Completes p.instr s P := by
  subst element
  have frame := p.element_frame s
  refine ⟨_, (exec_instr notWait s).trans (congrArg _ (State.stringTurn_unrepeated once)), effect ?_⟩
  exact ⟨kept, frame.segs, frame.ip, frame.pre, frame.latches, InProgress.element_env_plain plain p,
    congrArg (fun g : Progress => { g with repeating := none }) frame.progress⟩

/-- What a string primitive stores reads back where it is RAM, since what follows the store writes no memory. -/
theorem State.readSeg_after_writeSeg {sg off : Word} {v : BitVec w.bits} {t : State}
    (mem : t.mem = (s.writeSeg sg off w v).mem) (env : t.env = (s.writeSeg sg off w v).env)
    (ram : s.AllRam (accessBytes sg off w)) : t.readSeg sg off w = v :=
  (State.readSeg_congr (plain.writeSeg sg off w v) env mem sg off w).trans (State.readSeg_writeSeg plain sg off w v ram)

end

/-- A comparison sets the flags of the difference (rules R245 and R246). -/
theorem Flags.sub_difference (f : Flags) {n : Nat} (pos : 0 < n) (a b : BitVec n) : ∃ r : BitVec n,
    (r.toNat : Int) = ((a.toNat : Int) - b.toNat) % 2 ^ n ∧ SubFlags (f.sub a b false) a b 0 r :=
  ⟨_, by simpa using subResult_toNat a b false, f.sub_subFlags a b false pos⟩

/-! ## The statement -/

/-- Settles O33: each primitive is its element, of which the data and the steps of the indices are said apart. -/
theorem stringElement : Obligations.StringElement := by
  intro s w plain once src dst as k
  refine ⟨?movs, ?cmps, ?scas, ?lods, ?stos⟩
  case movs =>
    obtain ⟨si, di, kept⟩ := (s.writeSeg_unstepped s.segs.es s.regs.di w src).stepSi_stepDi w
    exact .of_element plain (p := .movs w) nofun once (State.movsElement_plain plain w) kept fun frame =>
      ⟨State.readSeg_after_writeSeg plain w rfl rfl, si, di, s.writeSeg_flags _ _ _ _,
        State.byteAt_writeSeg_outside plain _ _ w src, frame⟩
  case cmps =>
    obtain ⟨si, di, kept⟩ := (s.compare_unstepped src dst).stepSi_stepDi w
    exact .of_element plain (p := .cmps w) nofun once (State.cmpsElement_plain plain w) kept fun frame =>
      ⟨s.flags.sub_difference w.bits_pos src dst, .of_control (s.compare_unstepped src dst).control, si, di,
        fun _ _ => rfl, frame⟩
  case scas =>
    obtain ⟨di, kept⟩ := (s.compare_unstepped (s.acc w) dst).stepDi w
    exact .of_element plain (p := .scas w) nofun once (State.scasElement_plain plain w) kept fun frame =>
      ⟨s.flags.sub_difference w.bits_pos (s.acc w) dst, .of_control (s.compare_unstepped (s.acc w) dst).control, di,
        fun _ _ => rfl, frame⟩
  case lods =>
    have loaded := s.setAcc_sameRegsBut w src
    refine .of_element plain (p := .lods w) nofun once (State.lodsElement_plain plain w)
      ((loaded.mono (by simp)).setReg16 (by simp) _) fun frame => ⟨?_, ?_, ?_, rfl, fun _ _ => rfl, frame⟩
    · exact ((s.setAcc w src).stepSi_acc w).trans (Regs.get_set s.regs w .axAl src)
    · rintro rfl
      exact Regs.get8_set8_ne (r := .axAl) (q := .spAh) s.regs src (by decide)
    · exact congrArg₂ (· + ·) (loaded .siDh (by decide)) (State.stringDelta_of_control rfl w)
  case stos =>
    obtain ⟨di, kept⟩ := (s.writeSeg_unstepped s.segs.es s.regs.di w (s.acc w)).stepDi w
    exact .of_element plain (p := .stos w) nofun once rfl kept fun frame =>
      ⟨State.readSeg_after_writeSeg plain w rfl rfl, di, s.writeSeg_flags _ _ _ _,
        State.byteAt_writeSeg_outside plain _ _ w (s.acc w), frame⟩

end Sys2Proof.Machine
end

section
/-! Control transfer (44_control_transfer.md sections 1 to 4 and 6): conditional jumps and loops, JMP, CALL and RET, and
IRET. On a plain machine a read leaves the state as it is, so each transfer is its pushes or the change of SP, and then
the new CS:IP. -/

namespace Sys2Proof.Machine

/-! ## Conditional jumps and loops -/

/-- Settles O36: each jump is taken on its flag. -/
theorem singleFlagJumps : Obligations.SingleFlagJumps := by
  intro s d jumps
  exact ⟨⟨rfl, State.jumpIf_jumpsWhen rfl Iff.rfl⟩, ⟨rfl, State.jumpIf_jumpsWhen rfl (by simp)⟩,
    ⟨rfl, State.jumpIf_jumpsWhen rfl Iff.rfl⟩, ⟨rfl, State.jumpIf_jumpsWhen rfl (by simp)⟩,
    ⟨rfl, State.jumpIf_jumpsWhen rfl Iff.rfl⟩, ⟨rfl, State.jumpIf_jumpsWhen rfl (by simp)⟩,
    ⟨rfl, State.jumpIf_jumpsWhen rfl Iff.rfl⟩, ⟨rfl, State.jumpIf_jumpsWhen rfl (by simp)⟩,
    ⟨rfl, State.jumpIf_jumpsWhen rfl Iff.rfl⟩, ⟨rfl, State.jumpIf_jumpsWhen rfl (by simp)⟩⟩

/-- Settles O37: each jump is taken on its combination of flags. -/
theorem comparisonJumps : Obligations.ComparisonJumps := by
  intro s d jumps
  exact ⟨⟨rfl, State.jumpIf_jumpsWhen rfl (by simp)⟩, ⟨rfl, State.jumpIf_jumpsWhen rfl (by simp)⟩,
    ⟨rfl, State.jumpIf_jumpsWhen rfl bne_iff_ne⟩, ⟨rfl, State.jumpIf_jumpsWhen rfl beq_iff_eq⟩,
    ⟨rfl, State.jumpIf_jumpsWhen rfl (by simp)⟩, ⟨rfl, State.jumpIf_jumpsWhen rfl (by simp)⟩⟩

@[simp] theorem State.loopCount_cx (s : State) : s.loopCount.regs.cx = s.regs.cx - 1 := rfl

/-- What a loop instruction does, whatever its condition is called: CX is counted down whether or not it jumps. -/
theorem State.loopCount_jumpsWhen {j : Instr} {s : State} {taken : Bool} {c : Prop} {d : Byte}
    (hj : exec j s = .next (s.loopCount.jumpIf taken d)) (hc : taken = true ↔ c) :
    JumpsWhen j s c d (s.regs.cx - 1) := by
  refine ⟨_, hj, fun h => ?_, fun h => ?_, by simp, ?_, State.jumpIf_segs _ _ _,
    State.jumpIf_flags _ _ _, State.jumpIf_mem _ _ _, State.jumpIf_pre _ _ _, State.jumpIf_latches _ _ _,
    State.jumpIf_progress _ _ _, State.jumpIf_env _ _ _⟩
  · rw [hc.2 h]; rfl
  · rw [Bool.eq_false_iff.2 (mt hc.1 h)]; rfl
  · exact .of_set16 (State.jumpIf_regs _ _ _)

/-- Settles O39: the loops jump on CX as counted down, JCXZ on CX as it is. -/
theorem loopsAndJcxz : Obligations.LoopsAndJcxz := fun s d =>
  ⟨rfl, rfl, rfl, rfl, State.loopCount_jumpsWhen rfl (by simp), State.loopCount_jumpsWhen rfl (by simp),
    State.loopCount_jumpsWhen rfl (by simp), State.jumpIf_jumpsWhen rfl beq_iff_eq⟩

/-! ## The frame of a transfer -/

/-- From `s` to `u` SP became `sp`; IP, memory and the queue aside, nothing else a program or the host can see changed. -/
structure StackMoved (s u : State) (sp : Word) : Prop where
  regs : u.regs = s.regs.set16 .spAh sp
  segs : u.segs = s.segs
  flags : u.flags = s.flags
  hidden : SameHidden s u

theorem State.setReg16_stackMoved (s : State) (sp : Word) : StackMoved s (s.setReg16 .spAh sp) sp :=
  ⟨rfl, rfl, rfl, rfl, rfl, rfl, rfl⟩

theorem StackMoved.jumpFar {s u : State} {sp : Word} (h : StackMoved s u sp) (cs ip : Word) :
    Transfers s (u.jumpFar cs ip) cs ip sp := by
  refine ⟨rfl, Segs.get_set _ .cs cs, congrArg Regs.sp h.regs, rfl, h.flags, .of_set16 h.regs, fun g notCs => ?_,
    h.hidden⟩
  rw [State.jumpFar_segs, h.segs]
  exact Segs.get_set_ne _ _ notCs

/-- A near transfer is one to CS as it is. -/
theorem State.jumpNear_eq_jumpFar (s : State) (ip : Word) : s.jumpNear ip = s.jumpFar s.segs.cs ip := rfl

/-- An instruction that moves SP and then transfers control. -/
theorem Completes.of_jumpFar {i : Instr} {s : State} {cs ip sp : Word}
    (effect : exec i s = .next ((s.setReg16 .spAh sp).jumpFar cs ip)) :
    Completes i s fun t => Transfers s t cs ip sp ∧ SameBytesOutside [] s t :=
  ⟨_, effect, (s.setReg16_stackMoved sp).jumpFar cs ip, fun _ _ => rfl⟩

/-! ## JMP -/

/-- Settles O40: each form is the change of CS:IP, with SP at its own value. -/
theorem jmpTransfers : Obligations.JmpTransfers := by
  intro s plain goes
  refine ⟨fun d => ⟨rfl, .of_jumpFar rfl⟩, fun d => ⟨rfl, .of_jumpFar rfl⟩, fun off sgm => ⟨rfl, .of_jumpFar rfl⟩,
    fun rm => .of_jumpFar ?_, fun m => .of_jumpFar ?_⟩
  · show Host.Outcome.next ((s.afterRm .word rm).jumpNear _) = _
    rw [State.afterRm_plain plain]
    rfl
  · show Host.Outcome.next ((s.afterFar m).jumpFar (s.farSegment m) _) = _
    rw [State.afterFar_plain plain, State.farSegment_plain plain]
    rfl

/-! ## CALL -/

theorem State.push16_sp (s : State) (v : Word) : (s.push16 v).regs.sp = s.regs.sp - 2 :=
  congrArg Regs.sp (s.push16_regs v)

/-- The second of two pushes stores to the two bytes at SS:SP-4. -/
theorem State.accessBytes_second_push (s : State) (v : Word) :
    accessBytes (s.push16 v).segs.ss ((s.push16 v).regs.sp - 2) .word
      = accessBytes s.segs.ss (s.regs.sp - 4) .word := by
  rw [State.push16_segs, State.push16_sp, show s.regs.sp - 2 - 2 = s.regs.sp - 4 by bv_omega]

section
variable {s : State} (plain : Plain s)
include plain

theorem StackMoved.push16 {u : State} {sp : Word} (h : StackMoved s u sp) (v : Word) :
    StackMoved s (u.push16 v) (sp - 2) := by
  obtain ⟨regs, segs, flags, pre, latches, progress, env⟩ := h
  refine ⟨?_, (u.push16_segs v).trans segs, (u.push16_flags v).trans flags, (u.push16_pre v).trans pre,
    (u.push16_latches v).trans latches, (u.push16_progress v).trans progress,
    (State.push16_env_plain (plain.of_env env) v).1.trans env⟩
  rw [State.push16_regs, regs]
  rfl

theorem State.push16_stackMoved (v : Word) : StackMoved s (s.push16 v) (s.regs.sp - 2) :=
  (s.setReg16_stackMoved s.regs.sp).push16 plain v

theorem State.stackWord_jumpFar (cs ip depth : Word) : (s.jumpFar cs ip).stackWord depth = s.stackWord depth :=
  State.readSeg_congr (t := s.jumpFar cs ip) plain rfl rfl _ _ _

/-- The word pushed is at the top of the stack, if that is RAM. -/
theorem State.stackWord_zero_push16 (v : Word) (ram : s.AllRam (accessBytes s.segs.ss (s.regs.sp - 2) .word)) :
    (s.push16 v).stackWord 0 = v := by
  rw [State.stackWord_zero, State.top16, State.push16_sp, State.push16_segs]
  exact State.top16_push16 plain v ram

/-- A push leaves the word that was at the top, now the next above it. -/
theorem State.stackWord_two_push16 (v : Word) : (s.push16 v).stackWord 2 = s.stackWord 0 := by
  have sp : (s.push16 v).regs.sp + 2 = s.regs.sp + 0 := by rw [State.push16_sp]; bv_omega
  rw [State.stackWord, sp, State.push16_segs]
  exact State.readSeg_push16 plain v _ (by bv_omega) (by bv_omega) (by bv_omega) (by bv_omega)

/-- A near call: the return IP is pushed, and stored to the two bytes at SS:SP-2 only. -/
theorem Completes.of_nearCall {i : Instr} {ip : Word} (effect : exec i s = .next ((s.push16 s.ip).jumpNear ip)) :
    Completes i s fun t => Transfers s t s.segs.cs ip (s.regs.sp - 2)
      ∧ (s.AllRam (accessBytes s.segs.ss (s.regs.sp - 2) .word) → t.stackWord 0 = s.ip)
      ∧ SameBytesOutside (accessBytes s.segs.ss (s.regs.sp - 2) .word) s t := by
  rw [State.jumpNear_eq_jumpFar, State.push16_segs] at effect
  refine ⟨_, effect, (State.push16_stackMoved plain s.ip).jumpFar _ _, fun ram => ?_,
    State.push16_sameBytes plain s.ip⟩
  rw [State.stackWord_jumpFar (plain.push16 s.ip), State.stackWord_zero_push16 plain s.ip ram]

/-- A push adds its two bytes to those written before it. -/
theorem SameBytesOutside.push16 {u : State} {as : List Nat} (h : SameBytesOutside as s u) (env : u.env = s.env)
    (v : Word) : SameBytesOutside (as ++ accessBytes u.segs.ss (u.regs.sp - 2) .word) s (u.push16 v) := by
  intro a outside
  rw [← State.kindAt_congr env, List.mem_append, not_or] at outside
  rw [State.push16_sameBytes (plain.of_env env) v a (outside.imp_left And.right)]
  exact h a (by rw [← State.kindAt_congr env]; exact outside.imp_left And.left)

/-- The two pushes of a far call: CS, and below it IP (92_eei_decisions.md D20). -/
theorem State.pushFarReturn_stackMoved : StackMoved s s.pushFarReturn (s.regs.sp - 4) := by
  rw [show s.regs.sp - 4 = s.regs.sp - 2 - 2 by bv_omega]
  exact (State.push16_stackMoved plain s.segs.cs).push16 plain s.ip

/-- A far call: both words of the return address are pushed, and stored to the four bytes from SS:SP-4 only. -/
theorem Completes.of_farCall {i : Instr} {cs ip : Word} (effect : exec i s = .next (s.pushFarReturn.jumpFar cs ip)) :
    let both := accessBytes s.segs.ss (s.regs.sp - 2) .word ++ accessBytes s.segs.ss (s.regs.sp - 4) .word
    Completes i s fun t => Transfers s t cs ip (s.regs.sp - 4)
      ∧ (s.AllRam both → t.stackWord 0 = s.ip ∧ t.stackWord 2 = s.segs.cs) ∧ SameBytesOutside both s t := by
  intro both
  have env := (State.push16_env_plain plain s.segs.cs).1
  have plain' := plain.push16 s.segs.cs
  refine ⟨_, effect, (State.pushFarReturn_stackMoved plain).jumpFar cs ip, fun ram => ?_, ?_⟩
  · have pushed : Plain s.pushFarReturn := plain'.push16 s.ip
    rw [State.stackWord_jumpFar pushed, State.stackWord_jumpFar pushed]
    refine ⟨State.stackWord_zero_push16 plain' s.ip fun a mem => ?_, ?_⟩
    · rw [State.accessBytes_second_push] at mem
      rw [State.kindAt_congr env]
      exact ram a (List.mem_append_right _ mem)
    · rw [State.pushFarReturn, State.stackWord_two_push16 plain']
      exact State.stackWord_zero_push16 plain s.segs.cs fun a mem => ram a (List.mem_append_left _ mem)
  · have bytes := (State.push16_sameBytes plain s.segs.cs).push16 plain env s.ip
    rwa [State.accessBytes_second_push] at bytes

/-- The target of a call through memory is read before the pushes (92_eei_decisions.md D34). -/
theorem exec_callRm_plain (rm : Rm) :
    exec (.callRm rm) s = .next ((s.push16 s.ip).jumpNear (s.readRm .word rm)) := by
  show Host.Outcome.next (((s.afterRm .word rm).push16 s.ip).jumpNear _) = _
  rw [State.afterRm_plain plain]

theorem exec_callFarMem_plain (m : MemRef) : exec (.callFarMem m) s
    = .next (s.pushFarReturn.jumpFar (s.readSeg (s.memSeg m) (s.memOff m + 2) .word)
        (s.readSeg (s.memSeg m) (s.memOff m) .word)) := by
  show Host.Outcome.next ((s.afterFar m).pushFarReturn.jumpFar (s.farSegment m) _) = _
  rw [State.afterFar_plain plain, State.farSegment_plain plain, State.farOffset]

end

/-- Settles O41: the two near forms are one push, the two far forms two. -/
theorem callPushesReturn : Obligations.CallPushesReturn := by
  intro s plain first both near far
  exact ⟨fun d => .of_nearCall plain rfl, fun rm => .of_nearCall plain (exec_callRm_plain plain rm),
    fun off sgm => .of_farCall plain rfl, fun m => .of_farCall plain (exec_callFarMem_plain plain m)⟩

/-! ## RET and IRET -/

section
variable {s : State} (plain : Plain s)
include plain

theorem Plain.drop16 : Plain s.drop16 := by
  rw [State.drop16_plain plain]
  exact plain.of_env rfl

/-- A pop uncovers the words above the one popped. -/
theorem State.stackWord_drop16 (depth : Word) : s.drop16.stackWord depth = s.stackWord (2 + depth) := by
  rw [State.drop16_plain plain, State.stackWord, State.stackWord, ← add_assoc]
  exact State.readSeg_congr (t := s.setReg16 .spAh (s.regs.sp + 2)) plain rfl rfl _ _ _

/-- A far return: both words are those of the stack as it was. -/
theorem State.farReturn_plain :
    s.farReturn = (s.setReg16 .spAh (s.regs.sp + 4)).jumpFar (s.stackWord 2) (s.stackWord 0) := by
  have plain' := plain.drop16
  rw [State.farReturn, ← State.stackWord_zero, ← State.stackWord_zero, State.stackWord_drop16 plain,
    State.drop16_plain plain', State.drop16_plain plain]
  show (s.setReg16 .spAh (s.regs.sp + 2 + 2)).jumpFar _ _ = _
  rw [add_assoc]
  rfl

/-- The return from an interrupt, likewise, with the nine flags of the third word. -/
theorem State.interruptReturn_plain : s.interruptReturn
    = ((s.setReg16 .spAh (s.regs.sp + 6)).setFlags (Flags.ofImage (s.stackWord 4))).jumpFar (s.stackWord 2)
        (s.stackWord 0) := by
  have plain' := plain.drop16
  have plain'' := plain'.drop16
  simp only [State.interruptReturn, ← State.stackWord_zero]
  rw [State.stackWord_drop16 plain', State.stackWord_drop16 plain, State.stackWord_drop16 plain,
    State.drop16_plain plain'', State.drop16_plain plain', State.drop16_plain plain]
  show ((s.setReg16 .spAh (s.regs.sp + 2 + 2 + 2)).setFlags _).jumpFar _ _ = _
  rw [add_assoc, add_assoc]
  rfl

end

/-- Settles O42: each form is its pops, and the release of the immediate is a change of SP once more. -/
theorem retPopsReturn : Obligations.RetPopsReturn := by
  intro s n plain goes
  have near : s.drop16.jumpNear s.top16 = (s.setReg16 .spAh (s.regs.sp + 2)).jumpFar s.segs.cs (s.stackWord 0) := by
    rw [State.drop16_plain plain, ← State.stackWord_zero]
    rfl
  refine ⟨rfl, rfl, rfl, rfl, .of_jumpFar (congrArg _ near), .of_jumpFar ?_,
    .of_jumpFar (congrArg _ (State.farReturn_plain plain)), .of_jumpFar ?_⟩
  · show Host.Outcome.next ((s.drop16.jumpNear s.top16).releaseStack n) = _
    rw [near]
    rfl
  · show Host.Outcome.next (s.farReturn.releaseStack n) = _
    rw [State.farReturn_plain plain]
    rfl

/-! ## The image of the flags -/

/-- A position of the image that is not reserved shows the flag that has its place there (10_state.md rule R29). -/
theorem Flags.image_getLsbD (f : Flags) {k : Nat} (notReserved : reservedMask.getLsbD k = false) :
    f.image.getLsbD k = (decide (k < 16) && (decide (k = 0) && f.cf || decide (k = 2) && f.pf || decide (k = 4) && f.af
      || decide (k = 6) && f.zf || decide (k = 7) && f.sf || decide (k = 8) && f.tf || decide (k = 9) && f.iF
      || decide (k = 10) && f.df || decide (k = 11) && f.oF)) := by
  simp only [Flags.image, BitVec.getLsbD_or, BitVec.getLsbD_and, bitAt_getLsbD, notReserved, Bool.and_false,
    Bool.or_false, Bool.and_or_distrib_left]

/-- What an image says of the flags is what they are. -/
theorem Flags.ofImage_image (f : Flags) : Flags.ofImage f.image = f := by
  simp (disch := decide) only [Flags.ofImage, Flags.image_getLsbD]
  simp

/-- Settles O44: the words IRET pops right after an entry are those that the entry pushed. -/
theorem iretPopsAndUndoesEntry : Obligations.IretPopsAndUndoesEntry := by
  intro s plain
  refine ⟨⟨_, congrArg Host.Outcome.next (State.interruptReturn_plain plain), rfl, Segs.get_set _ .cs _, rfl, rfl,
    fun _ notCs => Segs.get_set_ne _ _ notCs, s.setReg16_sameRegsBut .spAh _, fun _ _ => rfl, rfl, rfl, rfl, rfl, rfl⟩,
    fun type savedIp ram => ?_⟩
  have plain' : Plain (s.interruptEntry type savedIp) := plain.of_env (State.interruptEntry_env_plain plain _ _).1
  obtain ⟨⟨-, stacked⟩, -⟩ := State.interruptEntry_entered plain type savedIp
  obtain ⟨image, cs, ip⟩ := stacked ram
  refine ⟨_, congrArg Host.Outcome.next (State.interruptReturn_plain plain'), ?_, ?_, ?_, ip⟩
  · show (s.interruptEntry type savedIp).regs.set16 .spAh ((s.interruptEntry type savedIp).regs.sp + 6) = _
    rw [State.interruptEntry_regs]
    show s.regs.set16 .spAh (s.regs.sp - 2 - 2 - 2 + 6) = _
    rw [show s.regs.sp - 2 - 2 - 2 + 6 = s.regs.sp by bv_omega]
    rfl
  · show (s.interruptEntry type savedIp).segs.set .cs _ = _
    rw [cs, State.interruptEntry_segs]
    rfl
  · exact (congrArg Flags.ofImage image).trans s.flags.ofImage_image

end Sys2Proof.Machine
end

section
/-! The flag instructions (45_processor_control.md rules R320 to R325): each is one write of the flags, which no frame
sees. With IF = 0 and no NMI pending nothing external is taken. -/

namespace Sys2Proof.Machine

/-- An instruction that writes the flags only. -/
theorem Completes.of_setFlags {i : Instr} {s : State} {f : Flags} (effect : exec i s = .next (s.setFlags f)) :
    Completes i s fun t => t.flags = f ∧ FrameRegs [] s t :=
  have frame : FrameRegs [] s s := .of_setRegs (g := s.regs) (.refl _ s)
  ⟨_, effect, rfl, frame.setFlags f⟩

theorem exec_cli (s : State) : exec .cli s = .next (s.setFlags { s.flags with iF := false }) := rfl

/-- Settles O45: each instruction is one write of the flags, and CLI leaves IF = 0, with which INTR is not taken. -/
theorem flagInstructions : Obligations.FlagInstructions := by
  intro s sets
  exact ⟨⟨rfl, .of_setFlags rfl⟩, ⟨rfl, .of_setFlags rfl⟩, ⟨rfl, .of_setFlags rfl⟩, ⟨rfl, .of_setFlags rfl⟩,
    ⟨rfl, .of_setFlags rfl⟩, ⟨rfl, .of_setFlags (exec_cli s)⟩,
    ⟨_, exec_cli s, fun noNmi savedIp => State.takeExternal_none _ savedIp noNmi (.inr rfl)⟩⟩

end Sys2Proof.Machine
end

section
/-! The boundary after an instruction (60_exceptions.md rules R361, R364 and R366; 92_eei_decisions.md D12, D13, D25 and
D32): the inhibit window or one external interrupt gives the state before the trap, and the trap starts there. -/

namespace Sys2Proof.Machine

/-! ## The external interrupt -/

theorem State.takeExternal_of_nmi {s : State} (nmi : s.latches.nmiPending = true) (savedIp : Word) :
    s.takeExternal savedIp = s.takeNmi savedIp := by simp [State.takeExternal, nmi]

theorem State.takeExternal_of_intr {s : State} (noNmi : s.latches.nmiPending = false) (intr : s.env.intr = true)
    (iF : s.flags.iF = true) (savedIp : Word) : s.takeExternal savedIp = s.takeIntr savedIp := by
  simp [State.takeExternal, noNmi, intr, iF]

/-- NMI, INTR with IF, or neither: which of the three a boundary finds. -/
theorem State.external_cases (s : State) : s.latches.nmiPending = true
    ∨ s.latches.nmiPending = false ∧ s.env.intr = true ∧ s.flags.iF = true
    ∨ s.latches.nmiPending = false ∧ (s.env.intr = false ∨ s.flags.iF = false) := by
  by_cases nmi : s.latches.nmiPending = true
  · exact .inl nmi
  · have noNmi : s.latches.nmiPending = false := by simpa using nmi
    by_cases raised : s.env.intr = true ∧ s.flags.iF = true
    · exact .inr (.inl ⟨noNmi, raised⟩)
    · exact .inr (.inr ⟨noNmi, (not_and_or.1 raised).imp Bool.eq_false_iff.2 Bool.eq_false_iff.2⟩)

/-- Whether a trap is due does not turn on the external interrupt taken before it. -/
theorem State.takeExternal_t0 (s : State) (savedIp : Word) : (s.takeExternal savedIp).progress.t0 = s.progress.t0 := by
  rcases s.external_cases with nmi | ⟨noNmi, intr, iF⟩ | ⟨noNmi, noIntr⟩
  · rw [State.takeExternal_of_nmi nmi, State.takeNmi, State.enterBetween_progress]
    rfl
  · rw [State.takeExternal_of_intr noNmi intr iF, State.takeIntr, State.enterBetween_progress, State.afterAck_progress]
  · rw [s.takeExternal_none savedIp noNmi noIntr]

theorem Plain.takeExternal {s : State} (plain : Plain s) (savedIp : Word) : Plain (s.takeExternal savedIp) := by
  rcases s.external_cases with nmi | ⟨noNmi, intr, iF⟩ | ⟨noNmi, noIntr⟩
  · rw [State.takeExternal_of_nmi nmi]
    exact plain.of_env (State.takeNmi_entered plain savedIp).2
  · rw [State.takeExternal_of_intr noNmi intr iF]
    unfold Plain
    rw [(State.takeIntr_entered plain savedIp).2]
    exact plain
  · rwa [s.takeExternal_none savedIp noNmi noIntr]

/-! ## The state before the trap -/

/-- What the first part of a boundary leaves: the inhibit window closed and nothing external looked at, or the one
external interrupt taken. -/
def State.beforeTrap (s : State) : State :=
  if s.latches.inhibit then s.setLatches { s.latches with inhibit := false } else s.takeExternal s.savedIp

theorem State.beforeTrap_of_window {s : State} (window : s.latches.inhibit = true) :
    s.beforeTrap = s.setLatches { s.latches with inhibit := false } := if_pos window

theorem State.beforeTrap_of_noWindow {s : State} (noWindow : s.latches.inhibit = false) :
    s.beforeTrap = s.takeExternal s.savedIp := by simp [State.beforeTrap, noWindow]

theorem State.beforeTrap_t0 (s : State) : s.beforeTrap.progress.t0 = s.progress.t0 := by
  unfold State.beforeTrap
  split
  · rfl
  · exact s.takeExternal_t0 _

theorem Plain.beforeTrap {s : State} (plain : Plain s) : Plain s.beforeTrap := by
  unfold State.beforeTrap
  split
  · exact plain.of_env rfl
  · exact plain.takeExternal _

/-! ## The trap -/

/-- A load of SS drops the trap (92_eei_decisions.md D32). -/
theorem State.boundary_of_ssLoad {s : State} (window : s.latches.inhibit = true) (ssLoad : s.progress.ssLoad = true) :
    s.boundary = s.beforeTrap := by
  simp [State.boundary, State.beforeTrap_of_window window, window, ssLoad]

theorem State.boundary_eq_trapStep {s : State} (noSsLoad : s.latches.inhibit = true → s.progress.ssLoad = false) :
    s.boundary = s.beforeTrap.trapStep := by
  cases window : s.latches.inhibit with
  | false => simp [State.boundary, State.beforeTrap_of_noWindow window, window]
  | true => simp [State.boundary, State.beforeTrap_of_window window, window, noSsLoad window]

/-- The trap is entered last, from the state before it and with that state's saved IP. -/
theorem State.boundary_of_trap {s : State} (t0 : s.progress.t0 = true)
    (noSsLoad : s.latches.inhibit = true → s.progress.ssLoad = false) :
    s.boundary = s.beforeTrap.enterBetween 1 s.beforeTrap.savedIp := by
  rw [State.boundary_eq_trapStep noSsLoad, State.trapStep, s.beforeTrap_t0, if_pos t0]

theorem State.boundary_of_noTrap {s : State}
    (noTrap : ¬(s.progress.t0 = true ∧ (s.latches.inhibit = true → s.progress.ssLoad = false))) :
    s.boundary = s.beforeTrap := by
  by_cases noSsLoad : s.latches.inhibit = true → s.progress.ssLoad = false
  · have noT0 : ¬s.progress.t0 = true := fun t0 => noTrap ⟨t0, noSsLoad⟩
    rw [State.boundary_eq_trapStep noSsLoad, State.trapStep, s.beforeTrap_t0, if_neg noT0]
  · obtain ⟨window, ssLoad⟩ := Classical.not_imp.1 noSsLoad
    exact State.boundary_of_ssLoad window (by simpa using ssLoad)

/-! ## The whole boundary -/

theorem State.endInstr_latches (s : State) : s.endInstr.latches = s.latches := by
  unfold State.endInstr; split <;> rfl

theorem State.complete_of_noWait {s : State} (noWait : s.progress.repeating ≠ some .wait) :
    s.complete = s.boundary.endInstr := if_neg noWait

theorem State.savedIp_of_turn {s : State} (turn : s.progress.repeating ≠ none) : s.savedIp = s.progress.instrIp :=
  if_pos (Option.isSome_iff_ne_none.2 turn)

theorem State.savedIp_of_noTurn {s : State} (noTurn : s.progress.repeating = none) : s.savedIp = s.ip := by
  simp [State.savedIp, noTurn]

/-- Settles O50: the state between the external interrupt and the trap is `State.beforeTrap`, by the three cases of the
external interrupt and the inhibit window; the trap and the end of the instruction come after it. -/
theorem boundaryOrder : Obligations.BoundaryOrder := by
  intro t plain noWait
  refine ⟨t.complete, t.beforeTrap, rfl, ?closed, fun window => ?window, fun noWindow nmi => ?nmi,
    fun noWindow noNmi intr iF => ?intr, fun noWindow noNmi noIntr => ?quiet, ?trap, State.savedIp_of_turn,
    State.savedIp_of_noTurn⟩
  case closed => rw [State.complete_of_noWait noWait, State.endInstr_latches, State.boundary_inhibit]
  case window =>
    rw [State.beforeTrap_of_window window]
    exact ⟨⟨rfl, rfl, rfl, rfl, rfl⟩, rfl, rfl, rfl⟩
  case nmi =>
    rw [State.beforeTrap_of_noWindow noWindow, State.takeExternal_of_nmi nmi]
    exact State.takeNmi_entered plain t.savedIp
  case intr =>
    rw [State.beforeTrap_of_noWindow noWindow, State.takeExternal_of_intr noNmi intr iF]
    obtain ⟨entered, env⟩ := State.takeIntr_entered plain t.savedIp
    refine ⟨t.ackByte, entered, by rw [env], fun n' ns script => ⟨?_, ?_⟩⟩
    · simp [State.ackByte, script]
    · simp [env, script]
  case quiet => rw [State.beforeTrap_of_noWindow noWindow, t.takeExternal_none _ noNmi noIntr]
  case trap =>
    rw [State.complete_of_noWait noWait]
    split
    · next trap =>
      obtain ⟨t0, noSsLoad⟩ := trap
      obtain ⟨entered, env⟩ := State.enterBetween_entered plain.beforeTrap 1 t.beforeTrap.savedIp
      rw [State.boundary_of_trap t0 noSsLoad]
      exact entered.endInstr (plain.beforeTrap.of_env env)
    · next noTrap =>
      rw [State.boundary_of_noTrap noTrap]
      exact t.beforeTrap.endInstr_follows

end Sys2Proof.Machine
end

section
/-! The host's events and the state after reset (92_eei_decisions.md section 3, 70_reset_and_hazards.md rule R390). -/

namespace Sys2Proof.Machine

/-- Settles O8: no byte is written, nothing is in progress, and nobody waits. -/
theorem resetMeetsInv : Obligations.ResetMeetsInv :=
  have between : State.reset.Between :=
    (State.between_iff _).2 ⟨Memory.nil_wf, fun _ isStale => (nomatch isStale), HiddenInv.reset⟩
  (stepInv_iff _).2 ⟨between, rfl, fun _ => rfl⟩

/-- An event of the host leaves the events of later steps as they are scripted. -/
theorem State.applyEvent_inputs (s : State) (e : HostEvent) : (s.applyEvent e).env.inputs = s.env.inputs := by
  cases e with
  | nmiEdge | intrLevel | testLevel | within | resetWithin => rfl
  | reset => rw [State.applyEvent_reset, State.masterWrites_inputs]; rfl
  | busWrite w =>
    show (if s.busLocked then s.putOff [w] else s.masterWrites [w]).env.inputs = _
    split
    · rfl
    · exact s.masterWrites_inputs [w]

theorem State.applyEvents_inputs (s : State) (es : List HostEvent) :
    (es.foldl State.applyEvent s).env.inputs = s.env.inputs := by
  induction es generalizing s with
  | nil => rfl
  | cons e es ih => exact (ih (s.applyEvent e)).trans (s.applyEvent_inputs e)

theorem State.applyEvent_busWrite_of_free {s : State} (free : s.busLocked = false) (w : MasterWrite) :
    s.applyEvent (.busWrite w) = s.store w.addr.toNat w.value := by
  simp [State.applyEvent, free, State.masterWrites]

theorem State.applyEvent_busWrite_of_locked {s : State} (locked : s.busLocked = true) (w : MasterWrite) :
    s.applyEvent (.busWrite w) = s.putOff [w] := by
  simp [State.applyEvent, locked]

/-- A step turns on no more than the state its events leave. -/
theorem step_congr {s t : State} (same : s.takeInputs = t.takeInputs) : step s = step t := by
  unfold step cycle
  rw [same]

/-- Settles O7: each event is one update of the state, and a step whose events are used up finds the rest. -/
theorem hostEventsTakeEffect : Obligations.HostEventsTakeEffect := by
  refine ⟨fun s => ⟨rfl, fun _ => rfl, fun _ => rfl, fun w free => ?_,
    fun w locked => State.applyEvent_busWrite_of_locked locked w, ?_, fun _ => rfl, fun _ => rfl⟩,
    fun s es rest scripted => ?_, State.takeInputs_nil⟩
  · rw [State.applyEvent_busWrite_of_free free]
    refine ⟨s.byteAt_store_same _ _, fun b hb => s.byteAt_store_other _ b _ (by simpa using hb), fun r _ => ?_, ?_⟩
    all_goals simp [SameControl, SameHidden]
  · rw [State.applyEvent_reset]
    simp only [State.busLocked, State.masterWrites_segs, State.masterWrites_ip, State.masterWrites_flags,
      State.masterWrites_latches, State.masterWrites_pre, State.masterWrites_progress, State.masterWrites_env]
    refine ⟨rfl, rfl, rfl, rfl, rfl, rfl, rfl, rfl, rfl, rfl, fun noneWaits => ?_⟩
    rw [noneWaits]
    exact ⟨rfl, rfl⟩
  · have inputs : s.takeInputs.env.inputs = rest := by
      rw [State.takeInputs_cons scripted]
      exact State.applyEvents_inputs _ es
    refine ⟨State.takeInputs_cons scripted, inputs, step_congr ?_⟩
    rw [State.takeInputs_cons (s := s.takeInputs.setEnv _) rfl]
    show _ = s.takeInputs.setEnv { s.takeInputs.env with inputs := rest }
    rw [← inputs]; rfl

end Sys2Proof.Machine
end

section
/-! The flags in AH and on the stack (40_data_transfer.md rules R148 to R151, 10_state.md rules R29 and R32), and STI, HLT,
WAIT and ESC (45_processor_control.md rules R326 to R333; 92_eei_decisions.md D16, D17 and D32). -/

namespace Sys2Proof.Machine

/-! ## LAHF, SAHF and POPF -/

theorem getLsbD_loByte (x : Word) {k : Nat} (low : k < 8) : (loByte x).getLsbD k = x.getLsbD k := by
  simp [loByte, low]

/-- LAHF writes AH alone: AX gets the low byte of the image and keeps AL. -/
theorem exec_lahf (s : State) : exec .lahf s = .next (s.setReg .byte .spAh (loByte s.flags.image)) := rfl

theorem exec_popf_plain {s : State} (plain : Plain s) : exec .popf s
    = .next ((s.setReg16 .spAh (s.regs.sp + 2)).setFlags (Flags.ofImage (s.stackWord 0))) := by
  show Host.Outcome.next (s.drop16.setFlags (Flags.ofImage s.top16)) = _
  rw [State.drop16_plain plain, State.stackWord_zero]

/-- Settles O18: the image shows each flag at its own bit, and a load takes each flag from that bit. -/
theorem flagTransfers : Obligations.FlagTransfers := by
  intro s
  refine ⟨⟨_, exec_lahf s, ?lowImage, rfl, s.setReg_frame .byte .spAh _⟩, ⟨rfl, .of_setFlags rfl⟩,
    fun plain => ⟨_, exec_popf_plain plain, rfl, rfl, ?popped⟩, ?image⟩
  case lowImage =>
    have loaded : (s.setReg .byte .spAh (loByte s.flags.image)).regs.get8 .spAh = loByte s.flags.image :=
      Regs.get8_set8 s.regs .spAh _
    simp (disch := decide) only [loaded, getLsbD_loByte, Flags.image_getLsbD]
    simp
  case popped => exact FrameRegs.setFlags (.of_setRegs (s.setReg16_sameRegsBut .spAh _)) _
  case image =>
    simp (disch := decide) only [Flags.image_getLsbD]
    simp

/-! ## STI, HLT, WAIT and ESC -/

theorem exec_hlt_uncut {s : State} (uncut : s.env.cut = none) :
    exec .hlt s = .next ((s.setLatches { s.latches with halted := true }).log .halt) :=
  congrArg Host.Outcome.next (State.busCycle_uncut (s := s.setLatches { s.latches with halted := true }) uncut _)

theorem exec_wait_low {s : State} (low : s.env.testLow = true) : exec .wait s = .next s.lastTurn :=
  congrArg Host.Outcome.next (if_pos low)

theorem exec_wait_high {s : State} (high : s.env.testLow = false) : exec .wait s = .next (s.anotherTurn .wait) :=
  congrArg Host.Outcome.next (if_neg (Bool.eq_false_iff.1 high))

/-- ESC reads its operand and shows it (45_processor_control.md rule R333). -/
theorem exec_esc_mem_plain {s : State} (plain : Plain s) (op : BitVec 6) (m : MemRef) : exec (.esc op (.mem m)) s
    = .next (s.log (.escape op (phys (s.memSeg m) (s.memOff m)) (phys (s.memSeg m) (s.memOff m + 1))
        (s.readSeg (s.memSeg m) (s.memOff m) .word))) := by
  show Host.Outcome.next ((s.afterRm .word (.mem m)).busCycle _) = _
  rw [State.afterRm_plain plain, State.busCycle_plain plain]
  rfl

/-- Settles O46: each instruction is one update of the flags, the latches, the turns left or the host's log. -/
theorem stiHltWaitEsc : Obligations.StiHltWaitEsc := by
  intro s
  have keepsRegs : SameRegsBut [] s s := .refl [] s
  have keepsBytes : SameBytesOutside [] s s := fun _ _ => rfl
  refine ⟨⟨_, rfl, rfl, rfl, keepsRegs, keepsBytes, rfl, rfl, rfl, rfl, rfl⟩,
    fun uncut => ⟨_, exec_hlt_uncut uncut, rfl, rfl, rfl, keepsRegs, keepsBytes, rfl, rfl, rfl, rfl⟩, ?wait,
    fun _ _ => rfl,
    fun op m plain => ⟨_, exec_esc_mem_plain plain op m, rfl, rfl, keepsRegs, keepsBytes, rfl, rfl, rfl, rfl, rfl⟩⟩
  case wait =>
    cases test : s.env.testLow with
    | true => exact ⟨_, exec_wait_low test, rfl, rfl, keepsRegs, keepsBytes, rfl, rfl, rfl, rfl, rfl⟩
    | false => exact ⟨_, exec_wait_high test, rfl, rfl, keepsRegs, keepsBytes, rfl, rfl, rfl, rfl, rfl⟩

end Sys2Proof.Machine
end

section
/-! What answers at an address (20_memory.md rule R61, 93_implementation_defined.md U16): one byte read and one byte
written for each of the four kinds, and the instructions that are one such access. -/

namespace Sys2Proof.Machine

/-! ## One byte over the bus -/

section
variable {s : State} {a : Nat}

theorem State.busByte_memory (memory : s.kindAt a = .ram ∨ s.kindAt a = .rom) : s.busByte a = s.byteAt a := by
  rcases memory with ram | rom
  · simp only [State.busByte, ram]
  · simp only [State.busByte, rom]

theorem State.afterRead_memory (memory : s.kindAt a = .ram ∨ s.kindAt a = .rom) : s.afterRead a = s := by
  rcases memory with ram | rom
  · simp only [State.afterRead, ram]
  · simp only [State.afterRead, rom]

theorem State.afterRead_absent (absent : s.kindAt a = .absent) : s.afterRead a = s.setDraws (s.draws + 1) := by
  simp only [State.afterRead, absent]

theorem State.afterRead_device (device : s.kindAt a = .device) (uncut : s.env.cut = none) :
    s.afterRead a = s.deviceRead a := by
  simp only [State.afterRead, device, State.busCycle_uncut uncut]

/-- The answer a device gives is the next one scripted. -/
theorem State.busByte_scripted (device : s.kindAt a = .device) {b : Byte} {bs : List Byte}
    (scripted : s.env.devIn = b :: bs) : s.busByte a = b := by
  simp [State.busByte, device, scripted]

theorem State.writeByte_ignored (notRam : s.kindAt a ≠ .ram) (notDevice : s.kindAt a ≠ .device)
    (uncut : s.env.cut = none) (v : Byte) : s.writeByte a v = s := by
  simp [State.writeByte, State.busCycle_uncut uncut, State.store, notRam, notDevice]

theorem State.writeByte_device (device : s.kindAt a = .device) (uncut : s.env.cut = none) (v : Byte) :
    s.writeByte a v = s.log (.memWrite a v) := by
  simp [State.writeByte, State.busCycle_uncut uncut, device]

end

section
variable (s : State) (a : Nat)

/-- A bus cycle has its effect, with some number of cycles left before RESET, or comes after RESET. -/
theorem State.busCycle_cases (f : State → State) :
    s.busCycle f = s ∨ ∃ cut, s.busCycle f = f (s.setEnv { s.env with cut := cut }) := by
  unfold State.busCycle
  split
  · exact .inr ⟨s.env.cut, rfl⟩
  · exact .inl rfl
  · exact .inr ⟨_, rfl⟩

/-- A read changes nothing but the draws, or is the answer of a device. -/
theorem State.afterRead_cases : s.afterRead a = s ∨ s.afterRead a = s.setDraws (s.draws + 1)
    ∨ ∃ cut, s.afterRead a = (s.setEnv { s.env with cut := cut }).deviceRead a := by
  unfold State.afterRead
  split
  · exact .inl rfl
  · exact .inl rfl
  · exact .inr (.inl rfl)
  · exact (s.busCycle_cases _).imp_right .inr

theorem State.afterRead_mem : (s.afterRead a).mem = s.mem := by
  rcases s.afterRead_cases a with same | drawn | ⟨cut, read⟩
  · rw [same]
  · rw [drawn]; rfl
  · rw [read]; rfl

theorem State.afterRead_waiting : (s.afterRead a).env.waiting = s.env.waiting := by
  rcases s.afterRead_cases a with same | drawn | ⟨cut, read⟩
  · rw [same]
  · rw [drawn]; rfl
  · rw [read]; rfl

/-- A byte sent over the bus is lost, shown to a device, or stored. -/
theorem State.writeByte_cases (v : Byte) : s.writeByte a v = s
    ∨ (∃ cut, s.writeByte a v = (s.setEnv { s.env with cut := cut }).log (.memWrite a v))
    ∨ ∃ cut, s.writeByte a v = (s.setEnv { s.env with cut := cut }).store a v := by
  rcases s.busCycle_cases fun t => if t.kindAt a = .device then t.log (.memWrite a v) else t.store a v
    with same | ⟨cut, written⟩
  · exact .inl same
  · split at written
    · exact .inr (.inl ⟨cut, written⟩)
    · exact .inr (.inr ⟨cut, written⟩)

theorem State.writeByte_waiting (v : Byte) : (s.writeByte a v).env.waiting = s.env.waiting := by
  rcases s.writeByte_cases a v with same | ⟨cut, shown⟩ | ⟨cut, stored⟩
  · rw [same]
  · rw [shown]; rfl
  · rw [stored, State.store_env]; rfl

/-- Whatever answers at `a`, a write to it leaves every other byte. -/
theorem State.writeByte_sameBytes (v : Byte) : SameBytesOutside [a] s (s.writeByte a v) := fun b outside => by
  rcases s.writeByte_cases a v with same | ⟨cut, shown⟩ | ⟨cut, stored⟩
  · rw [same]
  · rw [shown]; rfl
  · rw [stored]
    exact State.byteAt_store_other _ a b v (outside.imp_left (by simpa using ·))

end

/-! ## MOV of a byte between AL and memory -/

/-- Which registers a result reaches is a matter of the registers alone. -/
theorem SameRegsOutside.congr {w : Width} {dst : Rm} {s t u : State} (h : SameRegsOutside w dst s t)
    (regs : u.regs = t.regs) : SameRegsOutside w dst s u := by
  unfold SameRegsOutside SameRegsBut at *
  rwa [regs]

section
variable {s : State} (alone : s.env.waiting = []) (addr : Word) {a : Nat}
  (operand : phys (s.memSeg (.direct addr)) addr = a)
include alone operand

theorem exec_loadByte : exec (.movAccMem .byte addr) s
    = .next ((s.afterRead a).setReg .byte .axAl (s.busByte a)) := by
  subst operand
  show Host.Outcome.next ((State.gap _).setReg .byte .axAl _) = _
  rw [State.gap_of_noneWaiting _ ((s.afterRead_waiting _).trans alone)]
  rfl

theorem exec_storeByte : exec (.movMemAcc .byte addr) s = .next (s.writeByte a (s.regs.get8 .axAl)) := by
  subst operand
  exact congrArg Host.Outcome.next (State.gap_of_noneWaiting _ ((s.writeByte_waiting _ _).trans alone))

end

theorem State.afterRead_setReg_sameRegsOutside (s : State) (a : Nat) (w : Width) (r : Reg) (v : BitVec w.bits) :
    SameRegsOutside w (.reg r) s ((s.afterRead a).setReg w r v) :=
  (s.setReg_sameRegsOutside w r v).congr (congrArg (·.set w r v) (s.afterRead_busOnly a).regs)

/-- A device exchanges: it is read and then written. -/
theorem exec_xchg_device {s : State} {m : MemRef} {a : Nat} (operand : a = phys (s.memSeg m) (s.memOff m))
    (device : s.kindAt a = .device) (alone : s.env.waiting = []) (uncut : s.env.cut = none) (reg : Reg) :
    exec (.xchgRmReg .byte (.mem m) reg) s = .next
      (((s.deviceRead a).log (.memWrite a (s.regs.get8 reg))).setReg .byte reg (s.busByte a)) := by
  subst operand
  have read : s.afterRm .byte (.mem m) = s.deviceRead (phys (s.memSeg m) (s.memOff m)) := by
    show (s.afterRead _).gap = _
    rw [State.afterRead_device device uncut]
    exact State.gap_of_noneWaiting _ alone
  have written : (s.deviceRead (phys (s.memSeg m) (s.memOff m))).writeRm .byte (.mem m) (s.regs.get8 reg)
      = (s.deviceRead (phys (s.memSeg m) (s.memOff m))).log (.memWrite (phys (s.memSeg m) (s.memOff m)) (s.regs.get8 reg)) := by
    show (State.writeByte _ (phys (s.memSeg m) (s.memOff m)) _).gap = _
    rw [State.writeByte_device (s := s.deviceRead _) device uncut]
    exact State.gap_of_noneWaiting _ alone
  show Host.Outcome.next (((s.afterRm .byte (.mem m)).writeRm .byte (.mem m) (s.regs.get8 reg)).setReg .byte reg _) = _
  rw [read, written]
  rfl

/-- Settles O10: each instruction is one read or one write of the byte, and the kind at its address decides what that
does. -/
theorem memoryKinds : Obligations.MemoryKinds := by
  intro s addr alone uncut a al loads stores answers
  have load := exec_loadByte alone addr (a := a) rfl
  have loaded : ((s.afterRead a).setReg .byte .axAl (s.busByte a)).regs.get8 .axAl = s.busByte a :=
    Regs.get8_set8 _ .axAl _
  have loadFrame := And.intro (s.afterRead_mem a)
    (And.intro (s.afterRead_busOnly a).flags (s.afterRead_setReg_sameRegsOutside a .byte .axAl (s.busByte a)))
  have store := exec_storeByte alone addr (a := a) rfl
  have storeFrame := And.intro (s.writeByte_busOnly a al).flags
    (And.intro (s.writeByte_busOnly a al).regs (s.writeByte_sameBytes a al))
  refine ⟨fun ram => ⟨⟨_, load, ⟨?_, ?_⟩, loadFrame⟩, ⟨_, store, ?_, storeFrame⟩⟩,
    fun rom => ⟨⟨_, load, ⟨?_, ?_⟩, loadFrame⟩, ⟨_, store, ?_, storeFrame⟩⟩,
    fun absent => ⟨⟨_, load, ?_, loadFrame⟩, ⟨_, store, ?_, storeFrame⟩⟩,
    fun device => ⟨⟨_, load, ?_, loadFrame⟩, ⟨_, store, ?_, storeFrame⟩, fun reg =>
      ⟨_, exec_xchg_device (m := .direct addr) (a := a) rfl device alone uncut reg, ?_⟩⟩⟩
  · exact loaded.trans (State.busByte_memory (.inl ram))
  · rw [State.afterRead_memory (.inl ram)]; rfl
  · rw [State.writeByte_ram ram uncut]
    exact ⟨s.byteAt_store_same a al ram, s.store_env a al⟩
  · exact loaded.trans (State.busByte_memory (.inr rom))
  · rw [State.afterRead_memory (.inr rom)]; rfl
  · rw [State.writeByte_ignored (by simp [rom]) (by simp [rom]) uncut]
    exact ⟨rfl, rfl⟩
  · rw [State.afterRead_absent absent]; rfl
  · rw [State.writeByte_ignored (by simp [absent]) (by simp [absent]) uncut]
    exact ⟨rfl, rfl⟩
  · rw [loaded, State.afterRead_device device uncut]
    exact ⟨fun b bs script => State.busByte_scripted device script, rfl⟩
  · rw [State.writeByte_device device uncut]
    exact ⟨rfl, rfl⟩
  · have exchanged : (((s.deviceRead a).log (.memWrite a (s.regs.get8 reg))).setReg .byte reg (s.busByte a)).regs.get8 reg
        = s.busByte a := Regs.get8_set8 _ reg _
    dsimp only
    rw [exchanged]
    exact ⟨fun b bs script => State.busByte_scripted device script, rfl, by simp [State.deviceRead, State.log]⟩

end Sys2Proof.Machine
end

section
/-! DIV and IDIV with a quotient that fits (41_arithmetic.md rules R191 and R192; 92_eei_decisions.md D10 and D28): quotient
and remainder are determined by the division they are of, and the registers hold both. -/

namespace Sys2Proof.Machine

/-! ## Division with a remainder -/

/-- `n` is `q` times `d` and `r` more, where `r` is smaller than `d` and has the sign of `n`. -/
def TruncatedDivision (n d q r : Int) : Prop := n = q * d + r ∧ r.natAbs < d.natAbs ∧ (r ≠ 0 → (r < 0 ↔ n < 0))

section
variable {n d q r : Int} (h : TruncatedDivision n d q r)
include h

theorem TruncatedDivision.divisor_ne_zero : d ≠ 0 := by
  obtain ⟨-, smaller, -⟩ := h
  omega

/-- The quotient of a division with a remainder of that sign is the one truncated towards 0. -/
theorem TruncatedDivision.tdiv_eq : n.tdiv d = q := by
  have divides := h.divisor_ne_zero
  obtain ⟨sum, smaller, sign⟩ := h
  have sum' : r + d * q = n := by rw [sum, mul_comm, add_comm]
  rcases lt_or_ge n 0 with negative | nonNegative
  · exact ((Int.tdiv_tmod_unique' negative.le divides).2 ⟨sum', by omega, by omega⟩).1
  · exact ((Int.tdiv_tmod_unique nonNegative divides).2 ⟨sum', by omega, by omega⟩).1

theorem TruncatedDivision.sub_eq : n - q * d = r := by
  obtain ⟨sum, -, -⟩ := h
  omega

end

/-- A remainder is smaller than a divisor of `n` bits, so it fits in `n` bits itself. -/
theorem TruncatedDivision.remainder_toInt {n : Nat} (pos : 0 < n) {x q r : Int} {d : BitVec n}
    (h : TruncatedDivision x d.toInt q r) : (BitVec.ofInt n r).toInt = r := by
  obtain ⟨-, smaller, -⟩ := h
  have low := d.le_toInt
  have high := d.toInt_lt
  exact BitVec.toInt_ofInt_eq_self pos (by omega) (by omega)

/-! ## The quotients that IDIV stores -/

theorem signedQuotientFits_iff (w : Width) (q : Int) : signedQuotientFits w q = true
    ↔ -2 ^ (w.bits - 1) < q ∧ q < 2 ^ (w.bits - 1) ∨ q = -2 ^ (w.bits - 1) ∧ Config.idivAcceptsMin = true := by
  have positive : (0 : Int) < 2 ^ (w.bits - 1) := by positivity
  rw [← not_iff_not, Bool.not_eq_true, signedQuotientFits_eq_false_iff]
  cases Config.idivAcceptsMin <;> simp <;> omega

theorem toInt_of_signedQuotientFits {w : Width} {q : Int} (fits : signedQuotientFits w q = true) :
    (BitVec.ofInt w.bits q).toInt = q := by
  have positive : (0 : Int) < 2 ^ (w.bits - 1) := by positivity
  have inRange := (signedQuotientFits_iff w q).1 fits
  exact BitVec.toInt_ofInt_eq_self w.bits_pos (by omega) (by omega)

/-! ## DIV and IDIV -/

theorem State.setQuotient_frame (s : State) (w : Width) (q r : BitVec w.bits) :
    FrameRegs (productRegs w) s (s.setQuotient w q r) := by
  cases w with
  | byte => exact s.setAhAl_frame r q
  | word => exact .of_setRegs (((SameRegsBut.refl _ s).setReg16 (by decide) _).setReg16 (by decide) _)

/-- Quotient and remainder in their registers, the six status flags free, and nothing else changed. -/
def QuotientStored (s t : State) (w : Width) (q r : BitVec w.bits) : Prop :=
  t.regs = (s.setQuotient w q r).regs ∧ SameFlagsBut allStatus s t ∧ FrameRegs (productRegs w) s t

theorem State.setQuotient_stored (s : State) (w : Width) (q r : BitVec w.bits) :
    QuotientStored s ((s.setQuotient w q r).undefine allStatus) w q r :=
  ⟨State.undefine_regs _ _, .of_control (by simp), (s.setQuotient_frame w q r).undefine _⟩

section
variable {s : State} (plain : Plain s) (w : Width) (rm : Rm)
include plain

theorem Completes.div_of_fits {q r : Nat} (sum : (s.dividend w).toNat = q * (s.readRm w rm).toNat + r)
    (smaller : r < (s.readRm w rm).toNat) (fits : q < 2 ^ w.bits) : Completes (.div w rm) s fun t =>
      ∃ x y : BitVec w.bits, x.toNat = q ∧ y.toNat = r ∧ QuotientStored s t w x y := by
  obtain ⟨quotient, remainder⟩ : s.divQuotient w rm = q ∧ s.divRemainder w rm = r :=
    (Nat.div_mod_unique (by omega)).2 ⟨by rw [sum, mul_comm, add_comm], smaller⟩
  have noError : ¬((s.readRm w rm).toNat = 0 ∨ 2 ^ w.bits ≤ s.divQuotient w rm) := by omega
  refine ⟨_, rfl, _, _, (BitVec.toNat_ofNat ..).trans (Nat.mod_eq_of_lt fits),
    (BitVec.toNat_ofNat ..).trans (Nat.mod_eq_of_lt (smaller.trans (BitVec.isLt _))), ?_⟩
  rw [if_neg noError, State.afterRm_plain plain, quotient, remainder]
  exact s.setQuotient_stored w _ _

theorem Completes.idiv_of_fits {q r : Int}
    (division : TruncatedDivision (s.dividend w).toInt (s.readRm w rm).toInt q r)
    (fits : signedQuotientFits w q = true) : Completes (.idiv w rm) s fun t =>
      ∃ x y : BitVec w.bits, x.toInt = q ∧ y.toInt = r ∧ QuotientStored s t w x y := by
  have quotient : s.idivQuotient w rm = q := division.tdiv_eq
  have remainder : s.idivRemainder w rm = r := by rw [State.idivRemainder, quotient, division.sub_eq]
  have noError : ¬((s.readRm w rm).toInt = 0 ∨ signedQuotientFits w (s.idivQuotient w rm) = false) := by
    simp [quotient, fits, division.divisor_ne_zero]
  refine ⟨_, rfl, _, _, toInt_of_signedQuotientFits fits, division.remainder_toInt w.bits_pos, ?_⟩
  rw [if_neg noError, State.afterRm_plain plain, quotient, remainder]
  exact s.setQuotient_stored w _ _

end

/-- Of a byte division AL and AH are the results. -/
theorem QuotientStored.byte {s t : State} {q r : Byte} (h : QuotientStored s t .byte q r) :
    t.regs.get8 .axAl = q ∧ t.regs.get8 .spAh = r ∧ SameFlagsBut allStatus s t ∧ FrameRegs [.axAl] s t := by
  obtain ⟨regs, flags, frame⟩ := h
  rw [regs]
  exact ⟨s.setAhAl_al r q, s.setAhAl_ah r q, flags, frame⟩

/-- Of a word division AX and DX are. -/
theorem QuotientStored.word {s t : State} {q r : Word} (h : QuotientStored s t .word q r) :
    t.regs.ax = q ∧ t.regs.dx = r ∧ SameFlagsBut allStatus s t ∧ FrameRegs [.axAl, .dxDl] s t := by
  obtain ⟨regs, flags, frame⟩ := h
  rw [regs]
  exact ⟨rfl, rfl, flags, frame⟩

/-- Settles O26: a division with a remainder has one quotient and one remainder, and both fit their registers. -/
theorem divAndIdivResult : Obligations.DivAndIdivResult := by
  intro s rm plain
  refine ⟨fun q r => ⟨fun d divisor sum smaller fits => ?_, fun d divisor sum smaller fits => ?_⟩, ?_⟩
  · subst divisor
    obtain ⟨t, effect, x, y, rfl, rfl, stored⟩ := Completes.div_of_fits plain .byte rm sum smaller fits
    obtain ⟨al, ah, rest⟩ := stored.byte
    exact ⟨t, effect, by rw [al], by rw [ah], rest⟩
  · subst divisor
    rw [← s.dividend_word_toNat] at sum
    obtain ⟨t, effect, x, y, rfl, rfl, stored⟩ := Completes.div_of_fits plain .word rm sum smaller fits
    obtain ⟨ax, dx, rest⟩ := stored.word
    exact ⟨t, effect, by rw [ax], by rw [dx], rest⟩
  intro q r exact fits
  refine ⟨fun division fit => ?_, fun division fit => ?_⟩
  · obtain ⟨t, effect, x, y, quotient, remainder, stored⟩ :=
      Completes.idiv_of_fits plain .byte rm division ((signedQuotientFits_iff .byte q).2 fit)
    obtain ⟨al, ah, rest⟩ := stored.byte
    exact ⟨t, effect, by rw [al, quotient], by rw [ah, remainder], rest⟩
  · have division' : TruncatedDivision (s.dividend .word).toInt (s.readRm .word rm).toInt q r := by
      rw [s.dividend_word_toInt]
      exact division
    obtain ⟨t, effect, x, y, quotient, remainder, stored⟩ :=
      Completes.idiv_of_fits plain .word rm division' ((signedQuotientFits_iff .word q).2 fit)
    obtain ⟨ax, dx, rest⟩ := stored.word
    exact ⟨t, effect, by rw [ax, quotient], by rw [dx, remainder], rest⟩

end Sys2Proof.Machine
end

section
/-! Which encodings do not decode (30_encoding.md rules R105 to R111; 92_eei_decisions.md D7, D8 and D21). With six bytes at
hand no decoder runs out of them, so whether it rejects them is settled by the first two: by the opcode, and where it
selects a group or a memory form by the reg and mod fields. -/

namespace Sys2Proof
namespace Decoder

/-! ## What a decoder makes of enough bytes -/

/-- The decoder finds no instruction at the start of the bytes. -/
def Rejects : Decoder → List Byte → Prop
  | .done _, _ => False
  | .fail _, _ => True
  | .byte _, [] => True
  | .byte k, b :: bs => (k b).Rejects bs

theorem run_error_iff {d : Decoder} {bs : List Byte} {n : Nat} : (∃ e, d.run bs n = .error e) ↔ d.Rejects bs := by
  induction d generalizing bs n with
  | done i => simp [run, Rejects]
  | fail e => simp [run, Rejects]
  | byte k ih =>
    cases bs with
    | nil => simp [run, Rejects]
    | cons b bs => exact ih b

/-- Of any `n` bytes or more the decoder rejects all or none, and all exactly if `p` holds. -/
def RejectsIff (d : Decoder) (n : Nat) (p : Prop) : Prop := ∀ bs : List Byte, n ≤ bs.length → (d.Rejects bs ↔ p)

section
variable {n : Nat} {p : Prop}

theorem rejectsIff_done {i : Instr} : (done i).RejectsIff n p ↔ ¬p :=
  ⟨fun h holds => (h (List.replicate n 0) (by simp)).2 holds, fun fails _ _ => ⟨False.elim, fails⟩⟩

theorem rejectsIff_fail {e : DecodeError} : (fail e).RejectsIff n p ↔ p :=
  ⟨fun h => (h (List.replicate n 0) (by simp)).1 trivial, fun holds _ _ => ⟨fun _ => holds, fun _ => trivial⟩⟩

theorem rejectsIff_byte {k : Byte → Decoder} : (byte k).RejectsIff (n + 1) p ↔ ∀ b, (k b).RejectsIff n p := by
  constructor
  · exact fun h b bs long => h (b :: bs) (by simpa using long)
  · intro h bs long
    cases bs with
    | nil => simp at long
    | cons b bs => exact h b bs (by simpa using long)

theorem rejectsIff_word {k : Word → Decoder} : (word k).RejectsIff (n + 2) p ↔ ∀ v, (k v).RejectsIff n p := by
  simp only [word, rejectsIff_byte]
  exact ⟨fun h v => joinBytes_hiByte_loByte v ▸ h (loByte v) (hiByte v), fun h lo hi => h _⟩

theorem RejectsIff.mono {d : Decoder} {l : Nat} (h : d.RejectsIff n p) (le : n ≤ l) : d.RejectsIff l p :=
  fun bs long => h bs (le.trans long)

theorem rejectsIff_imm {w : Width} {k : Imm → Instr} : (imm w k).RejectsIff (n + 2) p ↔ ¬p := by
  cases w with
  | byte => simp [imm, imm8, rejectsIff_byte, rejectsIff_done]
  | word => simp [imm, imm16, rejectsIff_word, rejectsIff_done]

/-! ## The ModRM byte -/

/-- The mod field says whether the operand is in memory or in a register, and a displacement is two bytes at most. -/
theorem rejectsIff_rmOf {m : Byte} {k : Rm → Decoder} {q : Prop} (mem : ∀ a, (k (.mem a)).RejectsIff n p)
    (reg : ∀ r, (k (.reg r)).RejectsIff n q) : (rmOf m k).RejectsIff (n + 2) (if modField m = 3 then q else p) := by
  cases Encode.modrmByte_forms m with
  | direct reg =>
    rw [rmOf_direct, modField_modrmByte]
    exact rejectsIff_word.2 fun a => mem _
  | none reg b notBp =>
    rw [rmOf_none _ _ b notBp, modField_modrmByte]
    exact (mem _).mono (by omega)
  | d8 reg b =>
    rw [rmOf_d8, modField_modrmByte]
    exact (rejectsIff_byte.2 fun d => mem _).mono (by omega)
  | d16 reg b =>
    rw [rmOf_d16, modField_modrmByte]
    exact rejectsIff_word.2 fun d => mem _
  | reg _ r =>
    rw [rmOf_reg, modField_modrmByte]
    exact (reg r).mono (by omega)

theorem rejectsIff_rmOf_both {m : Byte} {k : Rm → Decoder} (both : ∀ rm, (k rm).RejectsIff n p) :
    (rmOf m k).RejectsIff (n + 2) p := by
  simpa using rejectsIff_rmOf (m := m) (fun a => both (.mem a)) fun r => both (.reg r)

theorem regField_toNat (m : Byte) : (regField m).toNat = m.toNat / 8 % 8 := by
  simp [regField, Nat.shiftRight_eq_div_pow]

theorem modField_eq_three_iff (m : Byte) : modField m = 3 ↔ m.toNat / 64 = 3 := by
  have bound := m.isLt
  rw [BitVec.toNat_eq]
  simp [modField, Nat.shiftRight_eq_div_pow]
  omega

end

/-- A statement about every value of a reg field. -/
theorem forall_regField {P : BitVec 3 → Prop} :
    (∀ r, P r) ↔ P 0 ∧ P 1 ∧ P 2 ∧ P 3 ∧ P 4 ∧ P 5 ∧ P 6 ∧ P 7 := by
  refine ⟨fun h => ⟨h 0, h 1, h 2, h 3, h 4, h 5, h 6, h 7⟩, fun ⟨h0, h1, h2, h3, h4, h5, h6, h7⟩ r => ?_⟩
  have values : r ∈ [0, 1, 2, 3, 4, 5, 6, 7] := by revert r; decide
  fin_cases values <;> assumption

theorem rejectsIff_modrm {k : BitVec 3 → Rm → Decoder} {p : Prop} (h : ∀ r rm, (k r rm).RejectsIff 2 p) :
    (modrm k).RejectsIff 5 p := rejectsIff_byte.2 fun m => rejectsIff_rmOf_both (h (regField m))

theorem rejectsIff_regRm {k : Reg → Rm → Instr} : (regRm k).RejectsIff 5 False :=
  rejectsIff_modrm fun _ _ => rejectsIff_done.2 not_false

theorem rejectsIff_group {members : List (Rm → Decoder)} {op : Byte} {p : Prop}
    (h : ∀ (r : BitVec 3) (rm : Rm), ((members.getD r.toNat fun _ => .fail (.extension op r)) rm).RejectsIff 2 p) :
    (group members op).RejectsIff 5 p := rejectsIff_modrm h

theorem rejectsIff_immGroup80 : (immGroup 0x80).RejectsIff 5 False :=
  rejectsIff_group (by simp [forall_regField, imm8, rejectsIff_byte, rejectsIff_done])

theorem rejectsIff_immGroup81 : (immGroup 0x81).RejectsIff 5 False :=
  rejectsIff_group (by simp [forall_regField, imm16, rejectsIff_word, rejectsIff_done])

theorem rejectsIff_escape {high : BitVec 3} : (escape high).RejectsIff 5 False :=
  rejectsIff_modrm fun _ _ => rejectsIff_done.2 not_false

/-! ## The second byte -/

/-- With four bytes after it, the second byte `b` of an encoding is rejected exactly if `U b` holds. -/
def RejectsSecond (d : Decoder) (U : Byte → Prop) : Prop := ∀ b, ∀ rest : List Byte, 4 ≤ rest.length →
  (d.Rejects (b :: rest) ↔ U b)

theorem RejectsIff.second {d : Decoder} {p : Prop} (h : d.RejectsIff 5 p) : d.RejectsSecond fun _ => p :=
  fun b rest long => h (b :: rest) (by simpa using long)

/-- A ModRM form whose reg field decides, for an operand in memory and for one in a register. -/
theorem rejectsSecond_modrm {k : BitVec 3 → Rm → Decoder} {p q : Nat → Prop}
    (mem : ∀ r a, (k r (.mem a)).RejectsIff 2 (p r.toNat)) (reg : ∀ r x, (k r (.reg x)).RejectsIff 2 (q r.toNat)) :
    (modrm k).RejectsSecond fun b => if b.toNat / 64 = 3 then q (b.toNat / 8 % 8) else p (b.toNat / 8 % 8) :=
  fun b rest long => by
    have decided := rejectsIff_rmOf (m := b) (mem (regField b)) (reg (regField b)) rest long
    rw [regField_toNat] at decided
    simp only [modField_eq_three_iff] at decided
    exact decided

/-- A ModRM form whose reg field decides by itself. -/
theorem rejectsSecond_modrm_both {k : BitVec 3 → Rm → Decoder} {p : Nat → Prop}
    (h : ∀ r rm, (k r rm).RejectsIff 2 (p r.toNat)) : (modrm k).RejectsSecond fun b => p (b.toNat / 8 % 8) := by
  simpa using rejectsSecond_modrm (fun r a => h r (.mem a)) fun r x => h r (.reg x)

theorem rejectsSecond_group {members : List (Rm → Decoder)} {op : Byte} {p : Nat → Prop}
    (h : ∀ (r : BitVec 3) (rm : Rm),
      ((members.getD r.toNat fun _ => .fail (.extension op r)) rm).RejectsIff 2 (p r.toNat)) :
    (group members op).RejectsSecond fun b => p (b.toNat / 8 % 8) := rejectsSecond_modrm_both h

/-- A form that needs a memory operand (rule R106). -/
theorem rejectsSecond_regMem {op : Byte} {k : Reg → MemRef → Instr} :
    (regMem op k).RejectsSecond fun b => b.toNat / 64 = 3 := by
  have decided : (regMem op k).RejectsSecond _ := rejectsSecond_modrm (p := fun _ => False) (q := fun _ => True)
    (k := fun r => fun | .mem a => .done (k (Reg.ofBits r) a) | .reg _ => .fail (.registerForm op))
    (fun _ _ => rejectsIff_done.2 not_false) fun _ _ => rejectsIff_fail.2 trivial
  simpa using decided

theorem rejectsSecond_adjust {op : Byte} {i : Instr} : (adjust op i).RejectsSecond fun b => b ≠ 0x0A :=
  fun b rest long => by
    show (Rejects (if b = 0x0A then _ else _) rest) ↔ _
    split
    · next ten => exact ⟨False.elim, fun other => other ten⟩
    · next other => exact ⟨fun _ => other, fun _ => trivial⟩

theorem rejectsSecond_immGroup82 : (immGroup 0x82).RejectsSecond fun b => b.toNat / 8 % 8 ∈ [1, 4, 6] :=
  rejectsSecond_group (p := (· ∈ [1, 4, 6]))
    (by simp [forall_regField, imm8, rejectsIff_done, rejectsIff_fail, rejectsIff_byte])

theorem rejectsSecond_immGroup83 : (immGroup 0x83).RejectsSecond fun b => b.toNat / 8 % 8 ∈ [1, 4, 6] :=
  rejectsSecond_group (p := (· ∈ [1, 4, 6]))
    (by simp [forall_regField, imm8, rejectsIff_done, rejectsIff_fail, rejectsIff_byte])

theorem rejectsSecond_storeSreg {op : Byte} : (storeSreg op).RejectsSecond fun b => 4 ≤ b.toNat / 8 % 8 :=
  rejectsSecond_modrm_both (p := (4 ≤ ·)) (by simp [forall_regField, rejectsIff_done, rejectsIff_fail])

theorem rejectsSecond_loadSreg {op : Byte} :
    (loadSreg op).RejectsSecond fun b => 4 ≤ b.toNat / 8 % 8 ∨ b.toNat / 8 % 8 = 1 :=
  rejectsSecond_group (p := fun r => 4 ≤ r ∨ r = 1) (by simp [forall_regField, rejectsIff_done, rejectsIff_fail])

theorem rejectsSecond_popGroup {op : Byte} :
    (group [fun rm => .done (.popRm rm)] op).RejectsSecond fun b => b.toNat / 8 % 8 ≠ 0 :=
  rejectsSecond_group (p := (· ≠ 0)) (by simp [forall_regField, rejectsIff_done, rejectsIff_fail])

theorem rejectsSecond_movImm {op : Byte} {w : Width} :
    (group [fun rm => imm w fun v => .movRmImm v rm] op).RejectsSecond fun b => b.toNat / 8 % 8 ≠ 0 :=
  rejectsSecond_group (p := (· ≠ 0)) (by simp [forall_regField, rejectsIff_imm (n := 0), rejectsIff_fail])

theorem rejectsSecond_shiftGroup {op : Byte} {w : Width} {v : Count} :
    (shiftGroup op w v).RejectsSecond fun b => b.toNat / 8 % 8 = 6 :=
  rejectsSecond_group (p := (· = 6)) (by simp [forall_regField, rejectsIff_done, rejectsIff_fail])

theorem rejectsSecond_unaryGroup {op : Byte} {w : Width} :
    (unaryGroup op w).RejectsSecond fun b => b.toNat / 8 % 8 = 1 :=
  rejectsSecond_group (p := (· = 1))
    (by simp [forall_regField, rejectsIff_imm (n := 0), rejectsIff_done, rejectsIff_fail])

theorem rejectsSecond_byteGroup {op : Byte} : (group [fun rm => .done (.incRm .byte rm),
    fun rm => .done (.decRm .byte rm)] op).RejectsSecond fun b => 2 ≤ b.toNat / 8 % 8 :=
  rejectsSecond_group (p := (2 ≤ ·)) (by simp [forall_regField, rejectsIff_done, rejectsIff_fail])

/-- The far forms of CALL and JMP, /3 and /5, need a memory operand; of the others /7 alone is Undefined. -/
theorem rejectsSecond_wordGroup {op : Byte} : (wordGroup op).RejectsSecond fun b =>
    if b.toNat / 64 = 3 then b.toNat / 8 % 8 ∈ [3, 5, 7] else b.toNat / 8 % 8 = 7 := by
  unfold wordGroup group
  refine rejectsSecond_modrm (p := (· = 7)) (q := (· ∈ [3, 5, 7])) ?_ ?_
  all_goals simp [forall_regField, rejectsIff_done, rejectsIff_fail]

/-! ## The encodings the spec lists -/

/-- The encodings of first byte `op` and second byte `b` that rules R105, R106, R108, R110 and R111 leave Undefined. -/
def UndefinedAfter (op b : Byte) : Prop :=
  let reg := b.toNat / 8 % 8
  let mod := b.toNat / 64
  op ∈ [0x0F, 0xC0, 0xC1, 0xC8, 0xC9, 0xD6, 0xF1] ∨ (0x60 ≤ op.toNat ∧ op.toNat ≤ 0x6F)
    ∨ (op ∈ [0x82, 0x83] ∧ reg ∈ [1, 4, 6]) ∨ (op ∈ [0x8C, 0x8E] ∧ 4 ≤ reg) ∨ (op = 0x8E ∧ reg = 1)
    ∨ (op ∈ [0x8F, 0xC6, 0xC7] ∧ reg ≠ 0) ∨ (op ∈ [0xD0, 0xD1, 0xD2, 0xD3] ∧ reg = 6)
    ∨ (op ∈ [0xF6, 0xF7] ∧ reg = 1) ∨ (op = 0xFE ∧ 2 ≤ reg) ∨ (op = 0xFF ∧ reg = 7)
    ∨ (op ∈ [0x8D, 0xC4, 0xC5] ∧ mod = 3) ∨ (op = 0xFF ∧ (reg = 3 ∨ reg = 5) ∧ mod = 3)
    ∨ (op ∈ [0xD4, 0xD5] ∧ b ≠ 0x0A)

theorem undefinedAfter_FF (b : Byte) : UndefinedAfter 0xFF b
    ↔ if b.toNat / 64 = 3 then b.toNat / 8 % 8 ∈ [3, 5, 7] else b.toNat / 8 % 8 = 7 := by
  by_cases reg : b.toNat / 64 = 3
  · simp [UndefinedAfter, reg, or_comm, or_left_comm]
  · simp [UndefinedAfter, reg]

/-- The first bytes of these encodings outside the row of 60h, which is Undefined as a whole. -/
def undefinedFirst : List Byte := [0x0F, 0xC0, 0xC1, 0xC8, 0xC9, 0xD6, 0xF1, 0x82, 0x83, 0x8C, 0x8D, 0x8E, 0x8F, 0xC4, 0xC5,
  0xC6, 0xC7, 0xD0, 0xD1, 0xD2, 0xD3, 0xD4, 0xD5, 0xF6, 0xF7, 0xFE, 0xFF]

/-- Some encoding of this first byte is Undefined. -/
abbrev SomeUndefined (op : Byte) : Prop := op ∈ undefinedFirst ∨ (0x60 ≤ op.toNat ∧ op.toNat ≤ 0x6F)

theorem UndefinedAfter.someUndefined {op b : Byte} (undefined : UndefinedAfter op b) : SomeUndefined op := by
  have listed {some : List Byte} (h : op ∈ some) (among : some ⊆ undefinedFirst := by decide) : SomeUndefined op :=
    .inl (among h)
  rcases undefined with h | h | ⟨h, -⟩ | ⟨h, -⟩ | ⟨h, -⟩ | ⟨h, -⟩ | ⟨h, -⟩ | ⟨h, -⟩ | ⟨h, -⟩ | ⟨h, -⟩ | ⟨h, -⟩ | ⟨h, -⟩
    | ⟨h, -⟩
  exacts [listed h, .inr h, listed h, listed h, listed (List.mem_singleton.2 h), listed h, listed h, listed h,
    listed (List.mem_singleton.2 h), listed (List.mem_singleton.2 h), listed h, listed (List.mem_singleton.2 h), listed h]

/-! ## The rows of the first-byte map -/

/-- Each decoder of the list rejects what the spec lists after its opcode, the first of which is `first`. -/
def RowRejects (first : Nat) (row : List Decoder) : Prop :=
  ∀ x ∈ row.zipIdx first, x.1.RejectsSecond (UndefinedAfter (BitVec.ofNat 8 x.2))

theorem rowRejects_nil (n : Nat) : RowRejects n [] ↔ True := by simp [RowRejects]

theorem rowRejects_cons (n : Nat) (d : Decoder) (ds : List Decoder) :
    RowRejects n (d :: ds) ↔ d.RejectsSecond (UndefinedAfter (BitVec.ofNat 8 n)) ∧ RowRejects (n + 1) ds := by
  simp [RowRejects]

theorem rowRejects_append (n : Nat) (ds es : List Decoder) :
    RowRejects n (ds ++ es) ↔ RowRejects n ds ∧ RowRejects (n + ds.length) es := by
  simp [RowRejects, List.zipIdx_append, or_imp, forall_and]

/-- Opcodes after which every second byte is that of an instruction. -/
theorem rowRejects_of_accepts {n : Nat} {row : List Decoder} (accepts : ∀ d ∈ row, d.RejectsIff 5 False)
    (defined : ∀ k < row.length, ¬SomeUndefined (BitVec.ofNat 8 (n + k))) : RowRejects n row := by
  intro x place b rest long
  obtain ⟨low, inRow, -⟩ := List.mem_zipIdx place
  have opcode := defined (x.2 - n) (by omega)
  rw [Nat.add_sub_cancel' low] at opcode
  exact ((accepts _ (List.fst_mem_of_mem_zipIdx place)).second b rest long).trans
    ⟨False.elim, fun undefined => opcode undefined.someUndefined⟩

theorem RejectsSecond.undefinedAfter {d : Decoder} {U : Byte → Prop} {op : Byte} (h : d.RejectsSecond U)
    (same : ∀ b, UndefinedAfter op b ↔ U b) : d.RejectsSecond (UndefinedAfter op) :=
  fun b rest long => (h b rest long).trans (same b).symm

theorem rejectsSecond_of_accepts {d : Decoder} {op : Byte} (accepts : d.RejectsIff 5 False)
    (defined : ¬SomeUndefined op) : d.RejectsSecond (UndefinedAfter op) :=
  accepts.second.undefinedAfter fun _ => ⟨fun undefined => defined undefined.someUndefined, False.elim⟩

theorem rejectsSecond_fail {e : DecodeError} {op : Byte}
    (undefined : op ∈ ([0x0F, 0xC0, 0xC1, 0xC8, 0xC9, 0xD6, 0xF1] : List Byte)) :
    (fail e).RejectsSecond (UndefinedAfter op) := fun _ _ _ => ⟨fun _ => .inl undefined, fun _ => trivial⟩

theorem rowRejects_map0 : RowRejects 0x00 map0 := by
  rw [map0, rowRejects_append, rowRejects_cons, rowRejects_cons, rowRejects_nil, and_true]
  exact ⟨rowRejects_of_accepts (by simp [dwForms, accForms, rejectsIff_regRm, rejectsIff_imm (n := 3), rejectsIff_done])
      (by decide),
    rejectsSecond_of_accepts (rejectsIff_done.2 not_false) (by decide), rejectsSecond_fail (by decide)⟩

theorem rowRejects_map1 : RowRejects 0x10 map1 := rowRejects_of_accepts
  (by simp [map1, dwForms, accForms, rejectsIff_regRm, rejectsIff_imm (n := 3), rejectsIff_done]) (by decide)

theorem rowRejects_map2 : RowRejects 0x20 map2 := rowRejects_of_accepts
  (by simp [map2, dwForms, accForms, rejectsIff_regRm, rejectsIff_imm (n := 3), rejectsIff_done]) (by decide)

theorem rowRejects_map3 : RowRejects 0x30 map3 := rowRejects_of_accepts
  (by simp [map3, dwForms, accForms, rejectsIff_regRm, rejectsIff_imm (n := 3), rejectsIff_done]) (by decide)

theorem rowRejects_map4 : RowRejects 0x40 map4 :=
  rowRejects_of_accepts (by simp [map4, regOps, rejectsIff_done]) (by decide)

theorem rowRejects_map5 : RowRejects 0x50 map5 :=
  rowRejects_of_accepts (by simp [map5, regOps, rejectsIff_done]) (by decide)

theorem rowRejects_map7 : RowRejects 0x70 map7 :=
  rowRejects_of_accepts (by simp [map7, imm8, rejectsIff_byte, rejectsIff_done]) (by decide)

theorem rowRejects_map9 : RowRejects 0x90 map9 :=
  rowRejects_of_accepts (by simp [map9, farPtr, rejectsIff_word, rejectsIff_done]) (by decide)

theorem rowRejects_mapA : RowRejects 0xA0 mapA := rowRejects_of_accepts
  (by simp [mapA, wOps, accForms, imm16, rejectsIff_word, rejectsIff_imm (n := 3), rejectsIff_done]) (by decide)

theorem rowRejects_mapB : RowRejects 0xB0 mapB :=
  rowRejects_of_accepts (by simp [mapB, regImms, rejectsIff_imm (n := 3)]) (by decide)

theorem rowRejects_mapE : RowRejects 0xE0 mapE := rowRejects_of_accepts
  (by simp [mapE, wOps, farPtr, imm8, imm16, rejectsIff_byte, rejectsIff_word, rejectsIff_done]) (by decide)

theorem rowRejects_map8 : RowRejects 0x80 map8 := by
  simp only [map8, rowRejects_append, rowRejects_cons, rowRejects_nil, and_true, and_assoc]
  exact ⟨rejectsSecond_of_accepts rejectsIff_immGroup80 (by decide),
    rejectsSecond_of_accepts rejectsIff_immGroup81 (by decide),
    rejectsSecond_immGroup82.undefinedAfter (op := 0x82) (by simp [UndefinedAfter]),
    rejectsSecond_immGroup83.undefinedAfter (op := 0x83) (by simp [UndefinedAfter]),
    rowRejects_of_accepts (by simp [wForms, rejectsIff_regRm]) (by decide),
    rowRejects_of_accepts (by simp [wForms, rejectsIff_regRm]) (by decide),
    rowRejects_of_accepts (by simp [dwForms, rejectsIff_regRm]) (by decide),
    rejectsSecond_storeSreg.undefinedAfter (op := 0x8C) (by simp [UndefinedAfter]),
    rejectsSecond_regMem.undefinedAfter (op := 0x8D) (by simp [UndefinedAfter]),
    rejectsSecond_loadSreg.undefinedAfter (op := 0x8E) (by simp [UndefinedAfter]),
    rejectsSecond_popGroup.undefinedAfter (op := 0x8F) (by simp [UndefinedAfter])⟩

theorem rowRejects_mapC : RowRejects 0xC0 mapC := by
  simp only [mapC, rowRejects_cons, rowRejects_nil, and_true]
  refine ⟨rejectsSecond_fail (by decide), rejectsSecond_fail (by decide), ?_, ?_,
    rejectsSecond_regMem.undefinedAfter (op := 0xC4) (by simp [UndefinedAfter]),
    rejectsSecond_regMem.undefinedAfter (op := 0xC5) (by simp [UndefinedAfter]),
    rejectsSecond_movImm.undefinedAfter (op := 0xC6) (by simp [UndefinedAfter]),
    rejectsSecond_movImm.undefinedAfter (op := 0xC7) (by simp [UndefinedAfter]),
    rejectsSecond_fail (by decide), rejectsSecond_fail (by decide), ?_, ?_, ?_, ?_, ?_, ?_⟩
  all_goals refine rejectsSecond_of_accepts ?_ (by decide)
  all_goals simp [imm8, imm16, rejectsIff_byte, rejectsIff_word, rejectsIff_done]

theorem rowRejects_mapD : RowRejects 0xD0 mapD := by
  simp only [mapD, rowRejects_cons, rowRejects_nil, and_true]
  refine ⟨rejectsSecond_shiftGroup.undefinedAfter (op := 0xD0) (by simp [UndefinedAfter]),
    rejectsSecond_shiftGroup.undefinedAfter (op := 0xD1) (by simp [UndefinedAfter]),
    rejectsSecond_shiftGroup.undefinedAfter (op := 0xD2) (by simp [UndefinedAfter]),
    rejectsSecond_shiftGroup.undefinedAfter (op := 0xD3) (by simp [UndefinedAfter]),
    rejectsSecond_adjust.undefinedAfter (op := 0xD4) (by simp [UndefinedAfter]),
    rejectsSecond_adjust.undefinedAfter (op := 0xD5) (by simp [UndefinedAfter]), rejectsSecond_fail (by decide),
    rejectsSecond_of_accepts (rejectsIff_done.2 not_false) (by decide), ?_, ?_, ?_, ?_, ?_, ?_, ?_, ?_⟩
  all_goals exact rejectsSecond_of_accepts rejectsIff_escape (by decide)

theorem rowRejects_mapF : RowRejects 0xF0 mapF := by
  simp only [mapF, rowRejects_cons, rowRejects_nil, and_true]
  refine ⟨?_, rejectsSecond_fail (by decide), ?_, ?_, ?_, ?_,
    rejectsSecond_unaryGroup.undefinedAfter (op := 0xF6) (by simp [UndefinedAfter]),
    rejectsSecond_unaryGroup.undefinedAfter (op := 0xF7) (by simp [UndefinedAfter]), ?_, ?_, ?_, ?_, ?_, ?_,
    rejectsSecond_byteGroup.undefinedAfter (op := 0xFE) (by simp [UndefinedAfter]),
    rejectsSecond_wordGroup.undefinedAfter (op := 0xFF) undefinedAfter_FF⟩
  all_goals exact rejectsSecond_of_accepts (rejectsIff_done.2 not_false) (by decide)

theorem rowRejects_maps (r : Nat) (inMaps : r < 16) : RowRejects (16 * r) (maps.getD r []) := by
  interval_cases r
  exacts [rowRejects_map0, rowRejects_map1, rowRejects_map2, rowRejects_map3, rowRejects_map4, rowRejects_map5,
    (rowRejects_nil _).2 trivial, rowRejects_map7, rowRejects_map8, rowRejects_map9, rowRejects_mapA, rowRejects_mapB,
    rowRejects_mapC, rowRejects_mapD, rowRejects_mapE, rowRejects_mapF]

/-- Every row is full but that of 60h, which is empty. -/
theorem maps_row_length (r : Nat) (inMaps : r < 16) : (maps.getD r []).length = if r = 6 then 0 else 16 := by
  interval_cases r <;> rfl

theorem rejectsSecond_ofOpcode (op : Byte) : (ofOpcode op).RejectsSecond (UndefinedAfter op) := by
  have inMaps : op.toNat / 16 < 16 := by have := op.isLt; omega
  have rows := rowRejects_maps _ inMaps
  have length := maps_row_length _ inMaps
  unfold ofOpcode
  by_cases assigned : op.toNat / 16 = 6
  · rw [if_pos assigned] at length
    rw [List.getD_eq_default _ _ (by omega)]
    exact fun _ _ _ => ⟨fun _ => .inr (.inl (by omega)), fun _ => trivial⟩
  · rw [if_neg assigned] at length
    have inRow : op.toNat % 16 < (maps.getD (op.toNat / 16) []).length := by omega
    have column : BitVec.ofNat 8 (16 * (op.toNat / 16) + op.toNat % 16) = op := by
      rw [Nat.div_add_mod, BitVec.ofNat_toNat, BitVec.setWidth_eq]
    have placed := rows ((maps.getD (op.toNat / 16) [])[op.toNat % 16], 16 * (op.toNat / 16) + op.toNat % 16)
      (List.mk_mem_zipIdx_iff_le_and_getElem?_sub.2 (by simp))
    rwa [column, ← List.getD_eq_getElem _ _ inRow] at placed

/-- Settles O4: the first two bytes select the decoder of a row or of a group's member, and of six bytes it rejects what
the spec lists there. -/
theorem undefinedEncodingsExactly : Obligations.UndefinedEncodingsExactly := by
  unfold Obligations.UndefinedEncodingsExactly
  intro b1 b2 rest long
  rw [decode, run_error_iff]
  exact rejectsSecond_ofOpcode b1 b2 rest long

end Decoder
end Sys2Proof
end

section
/-! What an instruction can do to memory, to the host's side and to t0 (20_memory.md rules R60 and R61, 60_exceptions.md
rule R358): it reaches the first two over the bus only, and t0 not at all. So a property of these three that each kind of
bus access keeps is kept by every instruction. -/

namespace Sys2Proof.Machine

/-- A property of memory, of the host's side and of t0 that every kind of bus access keeps. -/
structure BusInvariant (P : State → Prop) : Prop where
  cpu : ∀ {s t : State}, P s → t.mem = s.mem → t.env = s.env → t.progress.t0 = s.progress.t0 → P t
  gap : ∀ {s : State}, P s → P s.gap
  afterRead : ∀ {s : State} (a : Nat), P s → P (s.afterRead a)
  writeByte : ∀ {s : State} (a : Nat) (v : Byte), P s → P (s.writeByte a v)
  shown : ∀ {s : State} (e : BusEvent), P s → P (s.busCycle fun t => t.log e)
  afterPortRead : ∀ {s : State} (port : Word), P s → P (s.afterPortRead port)

namespace BusInvariant

variable {P : State → Prop} (h : BusInvariant P) {s : State} (hs : P s)
include h hs

/-! ## The shared operations -/

theorem setFlags (f : Flags) : P (s.setFlags f) := h.cpu hs rfl rfl rfl
theorem setReg (w : Width) (r : Reg) (v : BitVec w.bits) : P (s.setReg w r v) := h.cpu hs rfl rfl rfl
theorem setReg16 (r : Reg) (v : Word) : P (s.setReg16 r v) := h.cpu hs rfl rfl rfl
theorem setSeg (i : SReg) (v : Word) : P (s.setSeg i v) := h.cpu hs rfl rfl rfl
theorem jumpNear (off : Word) : P (s.jumpNear off) := h.cpu hs rfl rfl rfl
theorem jumpFar (sg off : Word) : P (s.jumpFar sg off) := h.cpu hs rfl rfl rfl

theorem undefine (ns : List StatusFlag) : P (s.undefine ns) := h.cpu hs (by simp) (by simp) (by simp)

theorem jumpIf (c : Bool) (d : Byte) : P (s.jumpIf c d) := by
  cases c with
  | false => exact hs
  | true => exact h.jumpNear hs _

theorem afterSeg (sg off : Word) (w : Width) : P (s.afterSeg sg off w) := by
  cases w with
  | byte => exact h.gap (h.afterRead _ hs)
  | word => exact h.gap (h.afterRead _ (h.afterRead _ hs))

theorem writeSeg (sg off : Word) (w : Width) (v : BitVec w.bits) : P (s.writeSeg sg off w v) := by
  cases w with
  | byte => exact h.gap (h.writeByte _ _ hs)
  | word => exact h.gap (h.writeByte _ _ (h.writeByte _ _ hs))

theorem afterRm (w : Width) (rm : Rm) : P (s.afterRm w rm) := by
  cases rm with
  | reg r => exact hs
  | mem m => exact h.afterSeg hs _ _ w

theorem writeRm (w : Width) (rm : Rm) (v : BitVec w.bits) : P (s.writeRm w rm v) := by
  cases rm with
  | reg r => exact h.setReg hs w r v
  | mem m => exact h.writeSeg hs _ _ w v

theorem afterFar (m : MemRef) : P (s.afterFar m) := h.afterSeg (h.afterSeg hs _ _ _) _ _ _
theorem afterPhys16 (a : Nat) : P (s.afterPhys16 a) := h.gap (h.afterRead _ (h.afterRead _ hs))
theorem afterVector (type : Byte) : P (s.afterVector type) := h.afterPhys16 (h.afterPhys16 hs _) _
theorem leaveInstruction : P s.leaveInstruction := h.cpu hs rfl rfl rfl
theorem push16 (v : Word) : P (s.push16 v) := h.writeSeg (h.setReg16 hs _ _) _ _ _ _
theorem pushReg (r : Reg) : P (s.pushReg r) := by cases r <;> exact h.push16 hs _
theorem drop16 : P s.drop16 := h.setReg16 (h.afterSeg hs _ _ _) _ _
theorem pushFarReturn : P s.pushFarReturn := h.push16 (h.push16 hs _) _
theorem farReturn : P s.farReturn := h.jumpFar (h.drop16 (h.drop16 hs)) _ _

theorem inPort (w : Width) (port : Word) : P (s.inPort w port) := by
  cases w with
  | byte => exact h.setReg (h.afterPortRead _ hs) _ _ _
  | word => exact h.setReg (h.afterPortRead _ (h.afterPortRead _ hs)) _ _ _

theorem ioWrite (port : Word) (w : Width) (v : BitVec w.bits) : P (s.ioWrite port w v) := by
  cases w with
  | byte => exact h.shown _ hs
  | word => exact h.shown _ (h.shown _ hs)

theorem interruptEntry (type : Byte) (savedIp : Word) : P (s.interruptEntry type savedIp) := by
  have pushed : P (s.pushFrame savedIp) := h.push16 (h.push16 (h.setFlags (h.push16 hs _) _) _) _
  exact h.jumpFar (h.leaveInstruction (h.afterVector pushed type)) _ _

theorem interruptReturn : P s.interruptReturn := h.jumpFar (h.setFlags (h.drop16 (h.drop16 (h.drop16 hs))) _) _ _

theorem addTo (w : Width) (rm dst : Rm) (b : BitVec w.bits) (c : Bool) : P (s.addTo w rm dst b c) :=
  h.setFlags (h.writeRm (h.afterRm hs _ _) _ _ _) _
theorem subFrom (w : Width) (rm dst : Rm) (b : BitVec w.bits) (c : Bool) : P (s.subFrom w rm dst b c) :=
  h.setFlags (h.writeRm (h.afterRm hs _ _) _ _ _) _
theorem increment (w : Width) (dst : Rm) : P (s.increment w dst) := h.setFlags (h.writeRm (h.afterRm hs _ _) _ _ _) _
theorem decrement (w : Width) (dst : Rm) : P (s.decrement w dst) := h.setFlags (h.writeRm (h.afterRm hs _ _) _ _ _) _
theorem logicFlags {n : Nat} (r : BitVec n) : P (s.logicFlags r) := h.undefine (h.setFlags hs _) _
theorem logicTo (w : Width) (rm dst : Rm) (r : BitVec w.bits) : P (s.logicTo w rm dst r) :=
  h.logicFlags (h.writeRm (h.afterRm hs _ _) _ _ _) _

theorem shift (op : ShiftOp) (w : Width) (v : Count) (rm : Rm) : P (s.shift op w v rm) := by
  unfold State.shift
  split
  · exact h.afterRm hs w rm
  · exact h.undefine (h.setFlags (h.writeRm (h.afterRm hs w rm) w rm _) _) _

theorem setProduct (w : Width) (p : BitVec 32) : P (s.setProduct w p) := by cases w <;> exact h.cpu hs rfl rfl rfl
theorem setQuotient (w : Width) (q r : BitVec w.bits) : P (s.setQuotient w q r) := by
  cases w <;> exact h.cpu hs rfl rfl rfl

theorem stringTurn (p : InProgress) (compares : Bool) {element : State → State} (he : P (element s)) :
    P (s.stringTurn p compares element) := by
  unfold State.stringTurn
  split
  · exact h.cpu he rfl rfl rfl
  split
  · exact h.cpu hs rfl rfl rfl
  split
  · exact h.cpu he rfl rfl rfl
  · exact h.cpu he rfl rfl rfl

/-! ## Every instruction -/

/-- The cases follow the shared operation the instruction is made of. -/
theorem completes (i : Instr) : Completes i s P := by
  cases i with
  | seg | lock | repne | rep | clc | cmc | stc | cld | std | cli | sti | sahf | nop => exact ⟨_, rfl, h.cpu hs rfl rfl rfl⟩
  | cbw | cwd | lahf | lea | movRegImm | xchgAxCx | xchgAxDxBx | xchgAxIndex | cmpAccImm | jmpNear | jmpShort | jmpFar =>
    exact ⟨_, rfl, h.cpu hs rfl rfl rfl⟩
  | addRmReg | addRmImm | addAccImm | adcRmReg | adcRmImm | adcAccImm => exact ⟨_, rfl, h.addTo hs _ _ _ _ _⟩
  | subRmReg | subRmImm | subAccImm | sbbRmReg | sbbRmImm | sbbAccImm => exact ⟨_, rfl, h.subFrom hs _ _ _ _ _⟩
  | cmpRmReg | cmpRmImm => exact ⟨_, rfl, h.setFlags (h.afterRm hs _ _) _⟩
  | orRmReg | orRmImm | orAccImm | andRmReg | andRmImm | andAccImm | xorRmReg | xorRmImm | xorAccImm =>
    exact ⟨_, rfl, h.logicTo hs _ _ _ _⟩
  | testRmReg | testRmImm => exact ⟨_, rfl, h.logicFlags (h.afterRm hs _ _) _⟩
  | testAccImm => exact ⟨_, rfl, h.logicFlags hs _⟩
  | incR16 | incRm => exact ⟨_, rfl, h.increment hs _ _⟩
  | decR16 | decRm => exact ⟨_, rfl, h.decrement hs _ _⟩
  | neg => exact ⟨_, rfl, h.setFlags (h.writeRm (h.afterRm hs _ _) _ _ _) _⟩
  | not => exact ⟨_, rfl, h.writeRm (h.afterRm hs _ _) _ _ _⟩
  | daa | das => exact ⟨_, rfl, h.undefine (h.setFlags (h.setReg hs _ _ _) _) _⟩
  | aaa | aas | aam | aad => exact ⟨_, rfl, h.undefine (h.setFlags (h.setReg16 hs _ _) _) _⟩
  | mul | imul => exact ⟨_, rfl, h.undefine (h.setFlags (h.setProduct (h.afterRm hs _ _) _ _) _) _⟩
  | div w rm | idiv w rm =>
    refine ⟨_, rfl, ?_⟩
    split
    · exact h.interruptEntry (h.undefine (h.afterRm hs w rm) _) _ _
    · exact h.undefine (h.setQuotient (h.afterRm hs w rm) _ _ _) _
  | rol | ror | rcl | rcr | shl | shr | sar => exact ⟨_, rfl, h.shift hs _ _ _ _⟩
  | movRmReg => exact ⟨_, rfl, h.writeRm (h.afterRm hs _ _) _ _ _⟩
  | movRmImm | movRmSreg => exact ⟨_, rfl, h.writeRm hs _ _ _⟩
  | movAccMem | xlat => exact ⟨_, rfl, h.setReg (h.afterSeg hs _ _ _) _ _ _⟩
  | movMemAcc => exact ⟨_, rfl, h.writeSeg hs _ _ _ _⟩
  | movEsRm | movDsRm => exact ⟨_, rfl, h.setSeg (h.afterRm hs _ _) _ _⟩
  | movSsRm => exact ⟨_, rfl, h.cpu (h.afterRm hs _ _) rfl rfl rfl⟩
  | popSs => exact ⟨_, rfl, h.cpu (h.drop16 hs) rfl rfl rfl⟩
  | popEs | popDs => exact ⟨_, rfl, h.setSeg (h.drop16 hs) _ _⟩
  | popR16 => exact ⟨_, rfl, h.setReg16 (h.drop16 hs) _ _⟩
  | popRm => exact ⟨_, rfl, h.writeRm (h.drop16 hs) _ _ _⟩
  | popf => exact ⟨_, rfl, h.setFlags (h.drop16 hs) _⟩
  | pushSreg | pushf => exact ⟨_, rfl, h.push16 hs _⟩
  | pushR16 => exact ⟨_, rfl, h.pushReg hs _⟩
  | pushRm rm =>
    cases rm with
    | reg r => exact ⟨_, rfl, h.pushReg hs r⟩
    | mem m => exact ⟨_, rfl, h.push16 (h.afterRm hs _ _) _⟩
  | xchgRmReg => exact ⟨_, rfl, h.setReg (h.writeRm (h.afterRm hs _ _) _ _ _) _ _ _⟩
  | inImm | inDx => exact ⟨_, rfl, h.inPort hs _ _⟩
  | outImm | outDx => exact ⟨_, rfl, h.ioWrite hs _ _ _⟩
  | lds | les => exact ⟨_, rfl, h.setSeg (h.setReg16 (h.afterFar hs _) _ _) _ _⟩
  | hlt => exact ⟨_, rfl, h.shown _ (h.cpu (t := s.setLatches _) hs rfl rfl rfl)⟩
  | esc op rm =>
    cases rm with
    | reg r => exact ⟨_, rfl, hs⟩
    | mem m => exact ⟨_, rfl, h.shown _ (h.afterRm hs _ _)⟩
  | wait =>
    refine ⟨_, rfl, ?_⟩
    split <;> exact h.cpu hs rfl rfl rfl
  | movs w => exact ⟨_, rfl, h.stringTurn hs _ _ (h.cpu (h.writeSeg (h.afterSeg hs _ _ w) _ _ w _) rfl rfl rfl)⟩
  | cmps w => exact ⟨_, rfl, h.stringTurn hs _ _ (h.cpu (h.afterSeg (h.afterSeg hs _ _ w) _ _ w) rfl rfl rfl)⟩
  | scas w | lods w => exact ⟨_, rfl, h.stringTurn hs _ _ (h.cpu (h.afterSeg hs _ _ w) rfl rfl rfl)⟩
  | stos w => exact ⟨_, rfl, h.stringTurn hs _ _ (h.cpu (h.writeSeg hs _ _ w _) rfl rfl rfl)⟩
  | jo | jno | jb | jnb | je | jne | jbe | jnbe | js | jns | jp | jnp | jl | jnl | jle | jnle | jcxz =>
    exact ⟨_, rfl, h.jumpIf hs _ _⟩
  | loop | loopz | loopnz => exact ⟨_, rfl, h.jumpIf (h.setReg16 hs _ _) _ _⟩
  | callNear => exact ⟨_, rfl, h.jumpNear (h.push16 hs _) _⟩
  | callRm => exact ⟨_, rfl, h.jumpNear (h.push16 (h.afterRm hs _ _) _) _⟩
  | callFar => exact ⟨_, rfl, h.jumpFar (h.pushFarReturn hs) _ _⟩
  | callFarMem => exact ⟨_, rfl, h.jumpFar (h.pushFarReturn (h.afterFar hs _)) _ _⟩
  | jmpRm => exact ⟨_, rfl, h.jumpNear (h.afterRm hs _ _) _⟩
  | jmpFarMem => exact ⟨_, rfl, h.jumpFar (h.afterFar hs _) _ _⟩
  | retNear => exact ⟨_, rfl, h.jumpNear (h.drop16 hs) _⟩
  | retNearImm => exact ⟨_, rfl, h.setReg16 (h.jumpNear (h.drop16 hs) _) _ _⟩
  | retFar => exact ⟨_, rfl, h.farReturn hs⟩
  | retFarImm => exact ⟨_, rfl, h.setReg16 (h.farReturn hs) _ _⟩
  | int | int3 => exact ⟨_, rfl, h.interruptEntry hs _ _⟩
  | into =>
    refine ⟨_, rfl, ?_⟩
    split
    · exact h.interruptEntry hs 4 _
    · exact hs
  | iret => exact ⟨_, rfl, h.interruptReturn hs⟩

end BusInvariant

/-! ## The properties that are kept -/

/-- The CPU alone with its memory stays so, and t0 is as it was when the instruction began. -/
theorem busInvariant_plain (t0 : Bool) : BusInvariant fun s => Plain s ∧ s.progress.t0 = t0 where
  cpu := fun ⟨plain, same⟩ _ env t0' => ⟨plain.of_env env, t0'.trans same⟩
  gap := fun ⟨plain, same⟩ => by rw [State.gap_plain plain]; exact ⟨plain, same⟩
  afterRead := fun a ⟨plain, same⟩ => by rw [State.afterRead_plain plain]; exact ⟨plain, same⟩
  writeByte := fun a v ⟨plain, same⟩ => by
    rw [State.writeByte_plain plain]; exact ⟨plain.store a v, by rw [State.store_progress, same]⟩
  shown := fun e ⟨plain, same⟩ => by rw [State.busCycle_plain plain]; exact ⟨plain, same⟩
  afterPortRead := fun port ⟨plain, same⟩ => by
    rw [State.afterPortRead, State.busCycle_plain plain]; exact ⟨plain, same⟩

/-- A RESET under way stays so to the end of the step. -/
theorem busInvariant_cut : BusInvariant fun s => s.env.cut.isSome = true where
  cpu := fun cut _ env _ => by rwa [env]
  gap := fun cut => (State.gap_busOnly _).cutSome.trans cut
  afterRead := fun a cut => (State.afterRead_busOnly _ a).cutSome.trans cut
  writeByte := fun a v cut => (State.writeByte_busOnly _ a v).cutSome.trans cut
  shown := fun e cut => (State.busCycle_busOnly _ _ fun u => u.log_busOnly e).cutSome.trans cut
  afterPortRead := fun port cut => (State.afterPortRead_busOnly _ port).cutSome.trans cut

theorem State.busCycle_spent {s : State} (spent : s.env.cut = some 0) (f : State → State) : s.busCycle f = s := by
  simp [State.busCycle, spent]

/-- Once RESET has gone high, with no other master waiting, memory and the host's side stay as they are
(70_reset_and_hazards.md rule R390). -/
theorem busInvariant_spent {m : List Host.Cell} {e : Env} (spent : e.cut = some 0) (alone : e.waiting = []) :
    BusInvariant fun s => s.mem = m ∧ s.env = e where
  cpu := fun ⟨sameMem, sameEnv⟩ mem env _ => ⟨mem.trans sameMem, env.trans sameEnv⟩
  gap := fun ⟨sameMem, sameEnv⟩ => by
    rw [State.gap_of_noneWaiting _ (sameEnv ▸ alone)]; exact ⟨sameMem, sameEnv⟩
  afterRead := fun {s} a ⟨sameMem, sameEnv⟩ => by
    unfold State.afterRead
    rw [State.busCycle_spent (sameEnv ▸ spent)]
    split <;> exact ⟨sameMem, sameEnv⟩
  writeByte := fun a v ⟨sameMem, sameEnv⟩ => by
    rw [State.writeByte, State.busCycle_spent (sameEnv ▸ spent)]; exact ⟨sameMem, sameEnv⟩
  shown := fun event ⟨sameMem, sameEnv⟩ => by
    rw [State.busCycle_spent (sameEnv ▸ spent)]; exact ⟨sameMem, sameEnv⟩
  afterPortRead := fun port ⟨sameMem, sameEnv⟩ => by
    rw [State.afterPortRead, State.busCycle_spent (sameEnv ▸ spent)]; exact ⟨sameMem, sameEnv⟩

end Sys2Proof.Machine
end

section
/-! The end of an instruction and of a step (60_exceptions.md rules R358, R361 and R364, 10_state.md rule R42,
45_processor_control.md rules R327 and R330; 92_eei_decisions.md D11, D17 and D32): which steps end an instruction, and
what the boundary after it does and leaves. -/

namespace Sys2Proof.Machine

/-! ## The steps that end in a boundary -/

/-- A step that fetches an instruction runs it and comes to its boundary. -/
theorem Fetches.step_eq {s : State} {i : Instr} {n : Nat} (fetches : Fetches s i n) :
    step s = finishAnswer (completeAnswer (exec i (s.fetched n))) := by
  obtain ⟨noEvents, noEarlyNmi, awake, noTurn, decoded, noPrefix, allowed⟩ := fetches
  have inputs := s.takeInputs_nil noEvents
  have runs := step_of_decode s (i := i) (n := n) (by rwa [inputs]) (by rwa [inputs]) (by rwa [inputs]) (by rwa [inputs])
  rw [runs, inputs, runInstr_allowed noPrefix (by rwa [s.fetched_pre])]

theorem Fetches.noTurn {s : State} {i : Instr} {n : Nat} (fetches : Fetches s i n) : s.progress.repeating = none := by
  obtain ⟨-, -, -, noTurn, -⟩ := fetches
  exact noTurn

/-- So does a further turn of an instruction in progress. -/
theorem step_of_laterTurn {s : State} {p : InProgress} (turn : s.takeInputs.progress.repeating = some p)
    (begun : s.takeInputs.progress.freshReset = false) (awake : s.takeInputs.latches.halted = false) :
    step s = finishAnswer (completeAnswer (exec p.instr s.takeInputs)) := by
  simp [step, cycle, begun, State.turn, awake, turn]

/-- And a turn of the halt loop looks for an interrupt only. -/
theorem step_of_halted {s : State} (begun : s.takeInputs.progress.freshReset = false)
    (halted : s.takeInputs.latches.halted = true) :
    step s = .next (s.takeInputs.takeExternal s.takeInputs.ip).finish := by
  simp [step, cycle, begun, State.turn, halted, finishAnswer]

theorem Plain.finish_eq {t : State} (plain : Plain t) : t.finish = t := State.finish_plain plain.2.1 plain.2.2

/-! ## The end of an instruction -/

theorem Plain.endInstr {t : State} (plain : Plain t) : Plain t.endInstr := plain.of_env t.endInstr_env

theorem Plain.trapStep {t : State} (plain : Plain t) : Plain t.trapStep := by
  unfold State.trapStep
  split
  · exact plain.of_env (State.enterBetween_entered plain 1 _).2
  · exact plain

theorem Plain.boundary {t : State} (plain : Plain t) : Plain t.boundary := by
  unfold State.boundary
  split
  · dsimp only
    split
    · exact plain.of_env rfl
    · exact Plain.trapStep (plain.of_env rfl)
  · exact (plain.takeExternal _).trapStep

theorem Plain.complete {t : State} (plain : Plain t) : Plain t.complete := by
  unfold State.complete
  split
  · exact (plain.takeExternal _).endInstr
  · exact plain.boundary.endInstr

/-- On a plain machine nothing comes after the boundary. -/
theorem Plain.finishAnswer_complete {t : State} (plain : Plain t) :
    finishAnswer (completeAnswer (.next t)) = .next t.complete :=
  congrArg Host.Outcome.next plain.complete.finish_eq

theorem State.endInstr_repeating (t : State) : t.endInstr.progress.repeating = t.progress.repeating := by
  unfold State.endInstr; split <;> rfl

/-- While a turn is left the instruction goes on as it is. -/
theorem State.endInstr_of_turn {t : State} {p : InProgress} (turn : t.progress.repeating = some p) : t.endInstr = t := by
  simp [State.endInstr, turn]

/-! ## Prefixes -/

/-- Between instructions no prefix is active, nothing is in progress, and t0 is gone. -/
def State.Idle (s : State) : Prop := s.pre = Prefixes.none ∧ s.progress.mid = false ∧ s.progress.t0 = false

theorem State.endInstr_idle_of_noTurn {t : State} (noTurn : t.endInstr.progress.repeating = none) : t.endInstr.Idle := by
  rw [t.endInstr_repeating] at noTurn
  obtain ⟨pre, mid, t0, -⟩ := t.endInstr_idle noTurn
  exact ⟨pre, mid, t0⟩

theorem State.complete_idle_of_noTurn {t : State} (noTurn : t.complete.progress.repeating = none) : t.complete.Idle := by
  unfold State.complete at *
  split
  · next waits => exact State.endInstr_idle_of_noTurn (by rwa [if_pos waits] at noTurn)
  · next noWait => exact State.endInstr_idle_of_noTurn (by rwa [if_neg noWait] at noTurn)

theorem State.releaseBus_busOnly (s : State) : BusOnly s s.releaseBus := by
  unfold State.releaseBus
  split
  · exact .refl s
  · exact (BusOnly.bookkeeping s [] s.env.cut rfl).trans (State.masterWrites_busOnly _ _)

/-- The end of a step keeps the place in the instruction, or is a RESET. -/
theorem State.finish_idle {t : State} (idle : t.progress.repeating = none → t.Idle)
    (noTurn : t.finish.progress.repeating = none) : t.finish.Idle := by
  unfold State.finish at *
  split
  · have bus := t.resetCpu.releaseBus_busOnly
    exact ⟨bus.pre, by rw [bus.progress]; rfl, by rw [bus.progress]; rfl⟩
  · next noReset =>
    rw [if_neg noReset, t.releaseBus_busOnly.progress] at noTurn
    unfold State.Idle
    rw [t.releaseBus_busOnly.pre, t.releaseBus_busOnly.progress]
    exact idle noTurn

/-- Settles O60: both steps come to the boundary of an instruction, and the end of the instruction is the last thing a
boundary does. -/
theorem prefixesEndWithInstruction : Obligations.PrefixesEndWithInstruction := by
  intro s u next noTurn ends
  obtain ⟨i, t, answer⟩ : ∃ i t, step s = finishAnswer (completeAnswer (exec i t)) := by
    rcases ends with ⟨i, n, fetches⟩ | ⟨⟨p, turn⟩, begun, awake⟩
    · exact ⟨_, _, fetches.step_eq⟩
    · exact ⟨_, _, step_of_laterTurn turn begun awake⟩
  obtain ⟨v, effect⟩ := exec_next i t
  rw [effect] at answer
  obtain rfl : v.complete.finish = u := Host.Outcome.next.inj (answer.symm.trans next)
  exact State.finish_idle State.complete_idle_of_noTurn noTurn

/-! ## The single-step trap -/

theorem State.fetched_env {s : State} (alone : s.env.waiting = []) (n : Nat) : (s.fetched n).env = s.env := by
  rw [s.fetched_of_noneWaiting n alone]
  simp [State.advance]

theorem Plain.fetched {s : State} (plain : Plain s) (n : Nat) : Plain (s.fetched n) :=
  plain.of_env (State.fetched_env plain.2.1 n)

theorem State.fetched_repeating (s : State) (n : Nat) : (s.fetched n).progress.repeating = s.progress.repeating := by
  rw [s.fetched_progress]
  unfold State.beginInstr
  split <;> rfl

/-- At its first byte an instruction samples TF (60_exceptions.md rule R358). -/
theorem State.fetched_t0 {s : State} (first : s.progress.mid = false) (n : Nat) :
    (s.fetched n).progress.t0 = s.flags.tf := by
  rw [s.fetched_progress, State.beginInstr_progress (s.setProgress { s.progress with freshReset := false }) first]
  rfl

/-- Settles O51: whatever the instruction does t0 is TF as it began, and with nothing pending the boundary is the trap. -/
theorem singleStepTrap : Obligations.SingleStepTrap := by
  intro s t i n fetches plain first effect noWindow noNmi noIntr noWait
  obtain ⟨plainAfter, t0⟩ : Plain t ∧ t.progress.t0 = s.flags.tf :=
    ((busInvariant_plain s.flags.tf).completes ⟨plain.fetched n, State.fetched_t0 first n⟩ i).of_exec effect
  have answer : step s = .next t.complete := by
    rw [fetches.step_eq, effect, plainAfter.finishAnswer_complete]
  obtain ⟨u, v, completed, -, -, -, -, quiet, trap, -, -⟩ := boundaryOrder t plainAfter noWait
  obtain rfl : t.complete = u := Host.Outcome.next.inj completed
  obtain rfl : v = t := quiet noWindow noNmi noIntr
  refine ⟨_, answer, fun set => ?_, fun clear => ?_⟩
  · rwa [if_pos ⟨t0.trans set, fun window => nomatch noWindow.symm.trans window⟩] at trap
  · rwa [if_neg fun due => Bool.false_ne_true ((t0.trans clear).symm.trans due.1)] at trap

/-! ## The inhibit window -/

/-- With the window open and no trap due the boundary closes the window and does nothing else. -/
theorem State.complete_of_window {t : State} (noTurn : t.progress.repeating = none) (window : t.latches.inhibit = true)
    (noTrap : t.progress.t0 = true → t.progress.ssLoad = true) :
    t.complete = (t.setLatches { t.latches with inhibit := false }).endInstr := by
  have notDue : ¬(t.progress.t0 = true ∧ (t.latches.inhibit = true → t.progress.ssLoad = false)) := fun ⟨t0, noSsLoad⟩ =>
    nomatch (noTrap t0).symm.trans (noSsLoad window)
  rw [State.complete_of_noWait (by simp [noTurn]), State.boundary_of_noTrap notDue, State.beforeTrap_of_window window]

/-- What MOV SS, POP SS and STI have in common: they open the window, and a trap is due after STI only. -/
structure OpensWindow (s t : State) : Prop where
  ip : t.ip = s.ip
  env : t.env = s.env
  nmi : t.latches.nmiPending = s.latches.nmiPending
  window : t.latches.inhibit = true
  turn : t.progress.repeating = s.progress.repeating
  trap : t.progress.t0 = true → t.progress.ssLoad = true

theorem State.loadSs_opensWindow (s : State) (sp v : Word) : OpensWindow s ((s.setReg16 .spAh sp).loadSs v) :=
  ⟨rfl, rfl, rfl, rfl, rfl, fun _ => rfl⟩

/-- Settles O52: the three instructions open the window, and the boundary that follows closes it. -/
theorem inhibitWindowHoldsOff : Obligations.InhibitWindowHoldsOff := by
  intro s i n fetches plain form noTrap
  have plain' := plain.fetched n
  obtain ⟨t, effect, opens⟩ : Completes i (s.fetched n) (OpensWindow (s.fetched n)) := by
    rcases form with ⟨rm, rfl⟩ | rfl | rfl
    · refine ⟨_, rfl, ?_⟩
      rw [State.afterRm_plain plain', ← (s.fetched n).setReg16_sp_self]
      exact State.loadSs_opensWindow _ _ _
    · refine ⟨_, rfl, ?_⟩
      rw [State.drop16_plain plain']
      exact State.loadSs_opensWindow _ _ _
    · obtain ⟨first, clear⟩ := noTrap rfl
      have t0 : (s.fetched n).progress.t0 = false := (State.fetched_t0 first n).trans clear
      exact ⟨_, rfl, rfl, rfl, rfl, rfl, rfl, fun due => nomatch t0.symm.trans due⟩
  have noTurn : t.progress.repeating = none :=
    opens.turn.trans ((s.fetched_repeating n).trans fetches.noTurn)
  have plainAfter : Plain t := plain'.of_env opens.env
  refine ⟨t, t.complete, effect, by rw [fetches.step_eq, effect, plainAfter.finishAnswer_complete], ?_⟩
  rw [State.complete_of_window noTurn opens.window opens.trap]
  obtain ⟨-, -, ip, -⟩ := State.endInstr_follows (t.setLatches { t.latches with inhibit := false })
  refine ⟨State.endInstr_follows _, ip.trans (opens.ip.trans (s.fetched_ip n)), ?_, ?_, ?_⟩
  · rw [State.endInstr_latches]
    exact opens.nmi.trans (by rw [s.fetched_latches])
  · rw [State.endInstr_latches]; rfl
  · rw [State.endInstr_env]
    exact opens.env.trans (State.fetched_env plain.2.1 n)

/-! ## HLT and WAIT -/

/-- A step that takes the external interrupt there is, and at most ends the instruction after it, enters NMI, or INTR
with the type the acknowledge fetched. -/
theorem step_takesExternal {s u : State} (plain : Plain s) {savedIp : Word} (answer : step s = .next u.finish)
    (ends : u = s.takeExternal savedIp ∨ u = (s.takeExternal savedIp).endInstr) :
    (s.latches.nmiPending = true → ∃ v, step s = .next v
        ∧ Entered 2 savedIp (s.setLatches { s.latches with nmiPending := false }) v ∧ v.env = s.env)
      ∧ (s.latches.nmiPending = false ∧ s.env.intr = true ∧ s.flags.iF = true → ∃ v n, step s = .next v
        ∧ Entered n savedIp s v
        ∧ v.env = { s.env with ackIn := s.env.ackIn.tail, busLog := s.env.busLog ++ [.intAck n] }
        ∧ ∀ n' ns, s.env.ackIn = n' :: ns → n = n') := by
  have taken := plain.takeExternal savedIp
  have env : u.env = (s.takeExternal savedIp).env := by
    rcases ends with rfl | rfl
    · rfl
    · exact State.endInstr_env _
  have entered : ∀ {n t}, Entered n savedIp t (s.takeExternal savedIp) → Entered n savedIp t u := fun enters => by
    rcases ends with rfl | rfl
    · exact enters
    · exact enters.endInstr taken
  rw [(taken.of_env env).finish_eq] at answer
  refine ⟨fun nmi => ?_, fun ⟨noNmi, intr, iF⟩ => ?_⟩
  · rw [State.takeExternal_of_nmi nmi] at env entered
    obtain ⟨enters, sameEnv⟩ := State.takeNmi_entered plain savedIp
    exact ⟨u, answer, entered enters, env.trans sameEnv⟩
  · rw [State.takeExternal_of_intr noNmi intr iF] at env entered
    obtain ⟨enters, shown⟩ := State.takeIntr_entered plain savedIp
    exact ⟨u, s.ackByte, answer, entered enters, env.trans shown, fun n' ns script => by simp [State.ackByte, script]⟩

theorem State.anotherTurn_self {s : State} {p : InProgress} (turn : s.progress.repeating = some p) :
    s.anotherTurn p = s := by
  rw [State.anotherTurn, ← turn]
  rfl

/-- After a look at TEST that finds it HIGH the boundary looks for an external interrupt only (60_exceptions.md rule
R364). -/
theorem State.complete_of_wait {s : State} (waits : s.progress.repeating = some .wait) :
    s.complete = (s.takeExternal s.progress.instrIp).endInstr := by
  rw [State.complete, if_pos waits, State.savedIp_of_turn (by simp [waits])]

/-- With nothing pending, no window and no trap due the boundary does nothing. -/
theorem State.complete_of_nothing {t : State} (noTurn : t.progress.repeating = none)
    (noWindow : t.latches.inhibit = false) (noNmi : t.latches.nmiPending = false)
    (noIntr : t.env.intr = false ∨ t.flags.iF = false) (noTrap : t.progress.t0 = false) : t.complete = t.endInstr := by
  rw [State.complete_of_noWait (by simp [noTurn]), State.boundary_of_noTrap (by simp [noTrap]),
    State.beforeTrap_of_noWindow noWindow, t.takeExternal_none _ noNmi noIntr]

/-- Settles O53: a halted CPU and a WAIT with TEST HIGH take the external interrupt there is and stay where they are
without one; a WAIT with TEST LOW comes to the boundary of a finished instruction. -/
theorem waitingStates : Obligations.WaitingStates := by
  intro s plain noEvents begun nmi intr pending raised quiet
  have inputs := s.takeInputs_nil noEvents
  have looks : s.latches.halted = false → s.progress.repeating = some .wait →
      step s = finishAnswer (completeAnswer (exec .wait s)) := fun awake waits => by
    rw [step_of_laterTurn (p := .wait) (by rwa [inputs]) (by rwa [inputs]) (by rwa [inputs]), inputs]
    rfl
  refine ⟨fun halted => ?_, fun awake noWindow waits => ⟨fun high => ?_, fun low nothing noTrap => ?_⟩⟩
  · have answer : step s = .next (s.takeExternal s.ip).finish := by
      simpa only [inputs] using step_of_halted (s := s) (by rwa [inputs]) (by rwa [inputs])
    obtain ⟨takesNmi, takesIntr⟩ := step_takesExternal plain answer (.inl rfl)
    refine ⟨takesNmi, takesIntr, fun ⟨noNmi, noIntr⟩ => ?_⟩
    rw [answer, s.takeExternal_none _ noNmi noIntr, plain.finish_eq]
  · have answer : step s = .next (s.takeExternal s.progress.instrIp).endInstr.finish := by
      rw [looks awake waits, exec_wait_high high, State.anotherTurn_self waits, ← State.complete_of_wait waits]
      rfl
    obtain ⟨takesNmi, takesIntr⟩ := step_takesExternal plain answer (.inr rfl)
    refine ⟨fun ⟨noNmi, noIntr⟩ => ?_, takesNmi, takesIntr⟩
    rw [answer, s.takeExternal_none _ noNmi noIntr, State.endInstr_of_turn waits, plain.finish_eq]
  · obtain ⟨noNmi, noIntr⟩ := nothing
    have plainAfter : Plain s.lastTurn := plain.of_env rfl
    have ended : s.lastTurn.complete = s.lastTurn.endInstr :=
      State.complete_of_nothing rfl noWindow noNmi noIntr noTrap
    obtain ⟨-, mid, -, noTurn⟩ := s.lastTurn.endInstr_idle rfl
    refine ⟨s.lastTurn.endInstr, ?_, s.lastTurn.endInstr_follows, noTurn, mid, s.lastTurn.endInstr_env⟩
    rw [looks awake waits, exec_wait_low low, plainAfter.finishAnswer_complete, ended]

/-! ## An NMI before the first fetch -/

/-- Settles O59: the draw takes the NMI, or goes on to the fetch with the NMI still pending. -/
theorem earlyNmiEitherWay : Obligations.EarlyNmiEitherWay := by
  intro s plain noEvents fresh nmi awake noTurn
  have answer : step s = finishAnswer s.firstTurn := by
    simp [step, cycle, s.takeInputs_nil noEvents, fresh]
  generalize begun : (s.setProgress { s.progress with freshReset := false }).setDraws (s.draws + 1) = t
  have plain' : Plain t := plain.of_env (by rw [← begun]; rfl)
  cases taken : Config.freeFlag s.draws with
  | true =>
    have first : s.firstTurn = .next (t.takeNmi s.ip) := by simp [State.firstTurn, nmi, taken, ← begun]
    obtain ⟨entered, env⟩ := State.takeNmi_entered plain' s.ip
    refine .inl ⟨t.takeNmi s.ip, ?_, ?_⟩
    · rw [answer, first]
      exact congrArg Host.Outcome.next (plain'.of_env env).finish_eq
    · subst begun
      exact entered
  | false =>
    have fetch : t.turn = t.fetchAndRun := by
      rw [← begun]
      simp [State.turn, awake, noTurn]
    have first : s.firstTurn = t.turn := by simp [State.firstTurn, nmi, taken, ← begun]
    exact .inr (by rw [answer, first, fetch])

end Sys2Proof.Machine
end

section
/-! RESET in the course of a step (70_reset_and_hazards.md rule R390, 10_state.md section 7): it stays under way to the end
of the step, takes effect there, and cuts a word that is stored between its bytes. -/

namespace Sys2Proof.Machine

/-! ## RESET stays under way -/

section
variable (s : State)

@[simp] theorem State.takeExternal_cutSome (savedIp : Word) :
    (s.takeExternal savedIp).env.cut.isSome = s.env.cut.isSome := by
  unfold State.takeExternal State.takeNmi State.takeIntr
  split
  · simp
  · split <;> simp

@[simp] theorem State.trapStep_cutSome : s.trapStep.env.cut.isSome = s.env.cut.isSome := by
  unfold State.trapStep
  split
  · simp
  · rfl

@[simp] theorem State.boundary_cutSome : s.boundary.env.cut.isSome = s.env.cut.isSome := by
  unfold State.boundary
  split
  · dsimp only
    split <;> simp
  · simp

@[simp] theorem State.complete_cutSome : s.complete.env.cut.isSome = s.env.cut.isSome := by
  unfold State.complete
  split
  · rw [State.endInstr_env, State.takeExternal_cutSome]
  · rw [State.endInstr_env, State.boundary_cutSome]

end

/-- The state a turn leaves is one from which RESET still takes effect. -/
def Answer.Cut (a : Answer) : Prop := ∀ t, a = .next t → t.env.cut.isSome = true

section
variable {s : State} (cut : s.env.cut.isSome = true)
include cut

theorem exec_cut (i : Instr) : Answer.Cut (exec i s) := fun _ answer => (busInvariant_cut.completes cut i).of_exec answer

theorem completeAnswer_exec_cut (i : Instr) : Answer.Cut (completeAnswer (exec i s)) := by
  obtain ⟨t, answer⟩ := exec_next i s
  rintro _ completed
  rw [answer] at completed
  obtain rfl := Host.Outcome.next.inj completed
  rw [State.complete_cutSome]
  exact exec_cut cut i t answer

theorem runInstr_cut (i : Instr) : Answer.Cut (runInstr i s) := by
  unfold runInstr
  split
  · exact exec_cut cut i
  split
  · exact fun t refused => nomatch refused
  · exact completeAnswer_exec_cut cut i

theorem State.turn_cut : Answer.Cut s.turn := by
  unfold State.turn
  split
  · rintro _ ⟨⟩
    rwa [State.takeExternal_cutSome]
  split
  · exact completeAnswer_exec_cut cut _
  · unfold State.fetchAndRun
    split
    · exact fun t refused => nomatch refused
    · exact runInstr_cut (by simpa [State.advance] using cut) _

theorem State.firstTurn_cut : Answer.Cut s.firstTurn := by
  unfold State.firstTurn
  dsimp only
  split
  · split
    · rintro _ ⟨⟩
      simpa [State.takeNmi] using cut
    · exact State.turn_cut cut
  · exact State.turn_cut cut

/-- RESET at the end of a step is the event RESET. -/
theorem State.finish_of_cut : s.finish = s.applyEvent .reset := by
  rw [State.finish, if_pos cut]
  rfl

end

/-- A step in which RESET comes ends with it. -/
theorem step_of_cut {s u : State} (cut : s.takeInputs.env.cut ≠ none) (answer : step s = .next u) :
    ∃ t : State, u = t.applyEvent .reset := by
  have underWay := Option.isSome_iff_ne_none.2 cut
  obtain ⟨t, turned, rfl⟩ := finishAnswer_next answer
  refine ⟨t, State.finish_of_cut ?_⟩
  split at turned
  · exact State.firstTurn_cut underWay t turned
  · exact State.turn_cut underWay t turned

/-! ## A word that is cut -/

/-- A byte sent to RAM is stored if a bus cycle is left for it, and uses that cycle up. -/
theorem State.writeByte_cut {s : State} {a n : Nat} (ram : s.kindAt a = .ram) (cut : s.env.cut = some n) (v : Byte) :
    (s.writeByte a v).byteAt a = (if 1 ≤ n then v else s.byteAt a) ∧ (s.writeByte a v).env.cut = some (n - 1) := by
  cases n with
  | zero =>
    rw [State.writeByte, State.busCycle_spent cut]
    exact ⟨rfl, cut⟩
  | succ k =>
    have ram' : (s.setEnv { s.env with cut := some k }).kindAt a = .ram := ram
    have stored : s.writeByte a v = (s.setEnv { s.env with cut := some k }).store a v := by
      simp only [State.writeByte, State.busCycle, cut, ram']
      rfl
    rw [stored, State.byteAt_store_same _ a v ram', State.store_env]
    exact ⟨by simp, rfl⟩

/-- With no other master waiting a word is its two bytes, and nothing comes after them. -/
theorem State.writeSeg_word_alone {s : State} (alone : s.env.waiting = []) (sg off v : Word) : s.writeSeg sg off .word v
    = (s.writeByte (phys sg off) (loByte v)).writeByte (phys sg (off + 1)) (hiByte v) :=
  State.gap_of_noneWaiting _ (by rw [State.writeByte_waiting, State.writeByte_waiting, alone])

theorem State.writeSeg_word_sameBytes {s : State} (alone : s.env.waiting = []) (sg off v : Word) :
    SameBytesOutside (accessBytes sg off .word) s (s.writeSeg sg off .word v) := fun a outside => by
  have apart : (a ≠ phys sg off ∧ a ≠ phys sg (off + 1)) ∨ s.kindAt a ≠ .ram := by simpa [accessBytes] using outside
  rw [State.writeSeg_word_alone alone,
    State.writeByte_sameBytes _ _ _ a ((apart.imp_left fun ⟨_, high⟩ => by simpa using high).imp_right fun noRam => by
      rwa [(s.writeByte_busOnly _ _).kindAt]),
    State.writeByte_sameBytes _ _ _ a (apart.imp_left fun ⟨low, _⟩ => by simpa using low)]

/-- Of a word that is stored into RAM as many bytes arrive as cycles are left before RESET. -/
theorem State.writeSeg_word_cut {s : State} {n : Nat} (cut : s.env.cut = some n) (alone : s.env.waiting = [])
    {sg off : Word} (ram : s.AllRam (accessBytes sg off .word)) (v : Word) :
    (s.writeSeg sg off .word v).byteAt (phys sg off) = (if 1 ≤ n then loByte v else s.byteAt (phys sg off))
      ∧ (s.writeSeg sg off .word v).byteAt (phys sg (off + 1))
        = if 2 ≤ n then hiByte v else s.byteAt (phys sg (off + 1)) := by
  have apart := phys_succ_ne sg off
  have ramLow : s.kindAt (phys sg off) = .ram := ram _ (by simp [accessBytes])
  have ramHigh : s.kindAt (phys sg (off + 1)) = .ram := ram _ (by simp [accessBytes])
  rw [State.writeSeg_word_alone alone]
  obtain ⟨low, cut'⟩ := State.writeByte_cut ramLow cut (loByte v)
  have ramHigh' := ((s.writeByte_busOnly (phys sg off) (loByte v)).kindAt _).trans ramHigh
  obtain ⟨high, -⟩ := State.writeByte_cut ramHigh' cut' (hiByte v)
  have keepsLow := State.writeByte_sameBytes (s.writeByte (phys sg off) (loByte v)) (phys sg (off + 1)) (hiByte v)
    (phys sg off) (.inl (by simpa using apart.symm))
  have keepsHigh := s.writeByte_sameBytes (phys sg off) (loByte v) (phys sg (off + 1)) (.inl (by simpa using apart))
  refine ⟨keepsLow.trans low, high.trans ?_⟩
  rw [keepsHigh]
  exact if_congr (by omega) rfl rfl

/-- Settles O55: RESET is under way from the events of the step to its end, and once the cycles before it are used up
no access over the bus has an effect. -/
theorem resetCutsInstruction : Obligations.ResetCutsInstruction := by
  refine ⟨fun s u cut answer => ?_, fun i s t spent alone answer => ?_, ?_⟩
  · obtain ⟨t, rfl⟩ := step_of_cut cut answer
    obtain ⟨-, -, -, -, -, -, -, -, event⟩ := resetState
    obtain ⟨cs, ip, iF, tf, latches, pre, noTurn, fresh, -, waiting, uncut, -⟩ := event t
    exact ⟨cs, ip, iF, tf, latches, pre, noTurn, fresh, uncut, waiting⟩
  · exact ((busInvariant_spent spent alone).completes ⟨rfl, rfl⟩ i).of_exec answer
  · intro s addr n cut alone sg ram
    obtain ⟨low, high⟩ := State.writeSeg_word_cut cut alone ram s.regs.ax
    exact ⟨_, rfl, low, high, State.writeSeg_word_sameBytes alone _ _ _⟩

end Sys2Proof.Machine
end
